-- ==== Sys2Proof/Word.lean ====
section
/-! DEFINITION. The words of the DA608: bytes, decimal digits, ticket numbers, event codes and the
numbers of lanes, classes, zones and gates (spec/00_scope.md R1). -/

namespace Sys2Proof

/-- One character of the uplink, or one byte of a lane link. -/
abbrev Byte := BitVec 8

/-- A lane number, 0..5 (R1). -/
abbrev Lane := Fin 6

/-- A class number, 0..31 (R41). -/
abbrev ClassNo := Fin 32

/-- A zone number, 0..15 (R46). -/
abbrev ZoneNo := Fin 16

/-- A gate id, 0..63, where 0 means unset (R1, R176). -/
abbrev GateId := Fin 64

/-- A decimal digit. -/
abbrev Digit := Fin 10

/-- A ticket number: sixteen decimal digits d1..d16, a string of digits and not a quantity (R1).
Index 0 is d1. -/
abbrev Ticket := Vector Digit 16

/-- A card's UID: the bytes in the order received. Equality of lists is the equality of R8: the
same length, and the same byte at every position. -/
abbrev Uid := List Byte

/-- An event code: two decimal digits, 00 meaning unset (R1, R176). -/
structure EventCode where
  /-- The tens digit. -/
  tens : Digit
  /-- The units digit. -/
  units : Digit
deriving DecidableEq, Repr

/-- The event code 00, which means unset (R176). -/
def EventCode.unset : EventCode := ⟨0, 0⟩

/-- A Venue Clock value: seconds and a fraction in 1/256 s (R51). -/
structure VenueTime where
  /-- The seconds count, 32 bits. -/
  seconds : BitVec 32
  /-- The fraction, 8 bits, in units of 1/256 s. -/
  fraction : BitVec 8
deriving DecidableEq, Repr

/-- The lanes in ascending order. -/
def lanesAscending : List Lane := [0, 1, 2, 3, 4, 5]

/-- The lane after a lane, lane 0 after lane 5 (R64). -/
def Lane.next (n : Lane) : Lane := n + 1

/-- The lanes in the order the round-robin pointer reaches them (R64). -/
def lanesFrom (n : Lane) : List Lane := [n, n + 1, n + 2, n + 3, n + 4, n + 5]

end Sys2Proof
end

