-- ==== Sys2Proof/Config.lean ====
section
/-! DEFINITION. The fixed numbers of the DA608 (spec/00_scope.md, Key Figures, and the rules named
at each). The spec leaves no value open, so no constant here is opaque. -/

namespace Sys2Proof.Config

/-- The Admission Table's slots (R17). -/
def tableCapacity : Nat := 16384

/-- The journal's capacity in entries (R153). -/
def journalCapacity : Nat := 1024

/-- The most entries one TAKE_JOURNAL removes (R164). -/
def takeLimit : Nat := 16

/-- The gate events the Gate Controller can hold (R175). -/
def gateEventCapacity : Nat := 4

/-- The BUSY replies that can wait at once (R201). -/
def busyCapacity : Nat := 7

/-- The most payload bytes of an uplink frame (R197). -/
def maxPayload : Nat := 1024

/-- Encoder counts of one rotor arm, 120 degrees (R115). -/
def countsPerArm : Int := 96

/-- The start threshold in counts (R119). -/
def startThreshold : Int := 8

/-- Ticks in one second (R51). -/
def ticksPerSecond : Nat := 256

/-- The least and the greatest arm window, in seconds (R131). -/
def minWindow : Nat := 1
/-- The greatest arm window, in seconds (R131). -/
def maxWindow : Nat := 60

/-- The least commit threshold, in counts (R131). -/
def minThreshold : Nat := 48
/-- The greatest commit threshold, in counts (R131). -/
def maxThreshold : Nat := 90

/-- The greatest cooldown, in seconds (R43). -/
def maxCooldown : Nat := 3600

/-- The least link timeout, in seconds (R179). -/
def minLinkTimeout : Nat := 2

/-- Where the forced report count and the forced count since poll saturate (R71, R123). -/
def forcedLimit : Nat := 255

end Sys2Proof.Config
end

