-- ==== Sys2Proof/Syntax.lean ====
section
/-! DEFINITION. The commands of the DA608: one constructor for each row of spec/opcode_table.json,
in the table's order within each group, with the operands the state does not hold. -/

namespace Sys2Proof

/-- The sampled pair of a lane's encoder inputs, written (ENCA, ENCB) (R113). -/
structure EncoderPair where
  /-- The level of ENCAn. -/
  a : Bool
  /-- The level of ENCBn. -/
  b : Bool
deriving DecidableEq, Repr

/-- The levels of the strap pins BRS1 and BRS0, true for high (R2). -/
structure Straps where
  /-- The level of BRS1. -/
  brs1 : Bool
  /-- The level of BRS0. -/
  brs0 : Bool
deriving DecidableEq, Repr

/-- One character as the uplink receiver sees it (R196). -/
structure Character where
  /-- The eight data bits. -/
  data : Byte
  /-- The parity bit received. -/
  parity : Bool
  /-- The level found at the stop bit, true for the stop level. -/
  stop : Bool
deriving DecidableEq, Repr

/-- The input levels that a power-on reset samples (R181, R194, R196, R135). -/
structure PowerPins where
  /-- The EVAC input, true when asserted. -/
  evac : Bool
  /-- The strap pins. -/
  straps : Straps
  /-- Each lane's encoder pair. -/
  encoders : Vector EncoderPair 6
  /-- Each lane's LSELn, true when asserted. -/
  selected : Vector Bool 6
deriving DecidableEq, Repr

/-- The input levels that a warm reset samples, but for the EVAC pin, whose level the state holds
(R136, R196). -/
structure WarmPins where
  /-- The strap pins. -/
  straps : Straps
  /-- Each lane's encoder pair. -/
  encoders : Vector EncoderPair 6
deriving DecidableEq, Repr

/-- A command: one row of spec/opcode_table.json. -/
inductive Instr where
  /-- POWER_ON_RESET (R181). -/
  | powerOnReset (pins : PowerPins)
  /-- RST_ASSERTION (R180). -/
  | rstAssertion
  /-- WARM_RESET (R180). -/
  | warmReset (pins : WarmPins)
  /-- VENUE_CLOCK_TICK (R51). -/
  | venueClockTick
  /-- EVAC_ASSERTION (R173). -/
  | evacAssertion
  /-- EVAC_RELEASE (R174). -/
  | evacRelease
  /-- ENCODER_EVENT (R113): the pair newly sampled at a lane. -/
  | encoderEvent (lane : Lane) (pair : EncoderPair)
  /-- ARM_TIMER_EXPIRY (R125), at a lane. -/
  | armTimerExpiry (lane : Lane)
  /-- ARM_COMMAND (R92): the oldest command in flight, taken at its lane unit. -/
  | armCommand
  /-- WITHDRAW_COMMAND (R107): the oldest command in flight, taken at its lane unit. -/
  | withdrawCommand
  /-- LINK_MONITOR_TIMEOUT (R178). -/
  | linkMonitorTimeout
  /-- COMMIT_COMPLETION (R98). -/
  | commitCompletion
  /-- EXPIRY_COMPLETION (R102). -/
  | expiryCompletion
  /-- WITHDRAWN_COMPLETION (R103). -/
  | withdrawnCompletion
  /-- FORCED_REPORT_SERVICE (R62). -/
  | forcedReportService
  /-- GATE_EVENT_SERVICE (R63). -/
  | gateEventService
  /-- BACKFILL_STEP (R162). -/
  | backfillStep
  /-- TRANSFER_END (R183): the bits clocked in on LSIn since the transfer began, in order. -/
  | transferEnd (lane : Lane) (bits : List Bool)
  /-- PRESENT_CODE (R73). -/
  | presentCode
  /-- PRESENT_CARD (R73). -/
  | presentCard
  /-- CANCEL (R88). -/
  | cancel
  /-- POLL (R87). -/
  | poll
  /-- UPLINK_FRAME_ARRIVAL (R197). -/
  | uplinkFrameArrival
  /-- INTER_BYTE_GAP (R198). -/
  | interByteGap
  /-- REPLY_SENT (R201). -/
  | replySent
  /-- UNKNOWN_REQUEST (R200). -/
  | unknownRequest
  /-- LOAD_TICKET (R32). -/
  | loadTicket
  /-- DROP_TICKET (R35). -/
  | dropTicket
  /-- CLEAR_TABLE (R36). -/
  | clearTable
  /-- QUERY_TICKET (R37). -/
  | queryTicket
  /-- SET_CLASS (R43). -/
  | setClass
  /-- SET_ZONE (R49). -/
  | setZone
  /-- SET_CLOCK (R52). -/
  | setClock
  /-- READ_CLOCK (R53). -/
  | readClock
  /-- NOTE_ADMIT (R140). -/
  | noteAdmit
  /-- NOTE_EXIT (R146). -/
  | noteExit
  /-- REVOKE (R148). -/
  | revoke
  /-- TAKE_JOURNAL (R164). -/
  | takeJournal
  /-- SET_WATERMARK (R165). -/
  | setWatermark
  /-- OPEN_GATE (R170). -/
  | openGate
  /-- CLOSE_GATE (R171). -/
  | closeGate
  /-- SET_IDENTITY (R176). -/
  | setIdentity
  /-- SET_LINK_TIMEOUT (R179). -/
  | setLinkTimeout
  /-- SET_LANE (R131). -/
  | setLane
  /-- READ_TALLIES (R134). -/
  | readTallies
  /-- STATUS (R204). -/
  | status
  /-- RESTART (R205). -/
  | restart
  /-- TRANSFER_BEGIN (R192), at a lane. -/
  | transferBegin (lane : Lane)
  /-- CHARACTER_RECEIVED (R197). -/
  | characterReceived (c : Character)
  /-- SERVICE_ARBITER_CHOICE (R60). -/
  | serviceArbiterChoice
  /-- EVAC_PIN_CHANGE (R180): the level the EVAC pin takes, true when asserted. -/
  | evacPinChange (level : Bool)
deriving DecidableEq, Repr

end Sys2Proof
end

