-- ==== Sys2Proof/WellFormed.lean ====
section
/-! DEFINITION. Which commands are well formed. Every operand of a command has a type that holds
exactly the values the spec gives it (a lane 0..5, a pin level, a pair of levels, eight data bits,
a list of bits of any length, R183), so no ill-formed command can be written and no check is left.
What arrives on a link is data of a command, of any value: the frame checks of R187, R197, R198 and
R200 are effects of commands (Machine/Frames.lean), not conditions on them. -/

namespace Sys2Proof

/-- Every command is well formed: its operands' types hold no value that the spec does not give. -/
def Instr.wellFormed (_ : Instr) : Bool := true

end Sys2Proof
end

