-- ==== Sys2Proof/Decode.lean ====
section
/-! DEFINITION. Words that spell commands. spec/opcode_table.json gives no row any bits: a command reaches the
part as a pin level, a link's bits or characters, or a step of its own, not as a word. -/

namespace Sys2Proof

/-- The command that a word spells by the table's bits: none, since the table gives no row bits
(notes/assumptions/18.md). -/
def decodeTableWord (_nbits _w : Nat) : Option Instr := none

end Sys2Proof
end

