-- ==== Sys2Proof/Machine/State.lean ====
section
/-! DEFINITION. The state of the DA608 as plain data: every table, register, counter, slot, queue and
output pin that spec/ gives the part, and the machine right after power-on reset. -/

namespace Sys2Proof.Machine

/-- A side of a presentation and the direction of a hold: IN (street side, an entry) or OUT (stand
side, an exit) (R1, R5). -/
inductive Side where
  | IN
  | OUT
deriving DecidableEq, Repr

/-! ### The Admission Table (spec/02_the_admission_table.md) -/

/-- The source of a passage or of a journal entry: a local lane, or a gate by its id (R22, R154). -/
inductive Source where
  | lane (n : Lane)
  | gate (id : GateId)
deriving DecidableEq, Repr

/-- A last passage: time and source (R22). -/
structure Passage where
  time : VenueTime
  source : Source
deriving DecidableEq, Repr

/-- The state a held record had before its grant (R26). -/
inductive PriorState where
  | valid
  | outside
  | inside
deriving DecidableEq, Repr

/-- A remote mark: the gate id and time of the notice that set it (R28). -/
structure RemoteMark where
  gate : GateId
  time : VenueTime
deriving DecidableEq, Repr

/-- The hold sub-record (R26). -/
structure Hold where
  lane : Lane
  direction : Side
  prior : PriorState
  reservedZone : Option ZoneNo
  uid : Option Uid
  grantTime : VenueTime
  remoteMark : Option RemoteMark
  revokeMark : Bool
deriving DecidableEq, Repr

/-- The six record states. A record carries a hold exactly while it is HELD (R24, R25). -/
inductive RecordState where
  | valid
  | held (h : Hold)
  | inside
  | outside
  | spent
  | revoked
deriving DecidableEq, Repr

/-- The names of the record states, as replies and journal entries carry them (R208). -/
inductive StateName where
  | valid
  | held
  | inside
  | outside
  | spent
  | revoked
deriving DecidableEq, Repr

/-- A ticket record (R20). -/
structure Record where
  ticket : Ticket
  cls : ClassNo
  state : RecordState
  entries : Fin 16
  lastPassage : Option Passage
  binding : Option Uid
  pendingReport : Bool
deriving DecidableEq, Repr

/-- The Admission Table: the occupied slots with their records, slots strictly rising (R17, R19). -/
abbrev Table := List (Nat × Record)

/-! ### Classes, zones and the Venue Clock (spec/03_classes_zones_and_the_venue_clock.md) -/

/-- A class record (R41). -/
structure ClassRecord where
  windowOpen : BitVec 32
  windowClose : BitVec 32
  windowless : Bool
  limit : Fin 16
  cooldown : Nat
  zone : ZoneNo
  /-- Bit n is the mark for lane n. -/
  laneMask : BitVec 6
  cardOnly : Bool
  bind : Bool
  offlineOk : Bool
deriving DecidableEq, Repr

/-- A zone record (R46). -/
structure ZoneRecord where
  capacity : BitVec 16
  occupancy : BitVec 16
  reserved : Nat
deriving DecidableEq, Repr

/-- The Venue Clock (R51). -/
structure Clock where
  time : VenueTime
  valid : Bool
deriving DecidableEq, Repr

/-! ### The Decision Engine (spec/04_the_admission_decision.md) -/

/-- A hold reference: the ticket number and slot of one record (R68). -/
structure HoldRef where
  ticket : Ticket
  slot : Nat
deriving DecidableEq, Repr

/-- The ends a lane context records (R68). -/
inductive HoldEnd where
  | committed
  | expired
  | cancelled
  | withdrawn
deriving DecidableEq, Repr

/-- A last hold outcome: how the lane's latest hold ended, and its ticket (R68). -/
structure LastOutcome where
  howEnded : HoldEnd
  ticket : Ticket
deriving DecidableEq, Repr

/-- A lane context (R68). -/
structure LaneContext where
  holdRef : Option HoldRef
  lastOutcome : Option LastOutcome
  forcedSincePoll : Nat
deriving DecidableEq, Repr

/-- The arbiter's turn marker (R65). -/
inductive Turn where
  | lane
  | uplink
deriving DecidableEq, Repr

/-- What the Service Arbiter can choose: the sources of R60. -/
inductive Service where
  | completion (n : Lane)
  | forcedReport (n : Lane)
  | gateEvent
  | laneRequest (n : Lane)
  | uplinkRequest
  | backfill
deriving DecidableEq, Repr

/-- A command sent to a lane unit and not yet taken there (R91). -/
inductive LaneCommand where
  | arm (n : Lane) (direction : Side)
  | withdraw (n : Lane)
deriving DecidableEq, Repr

/-! ### Lane Units (spec/06_lane_units.md) -/

/-- A lane's role (R127). -/
inductive Role where
  | off
  | entry
  | exit
  | freeExit
  | dual
deriving DecidableEq, Repr

/-- The five lane states (R118). -/
inductive LaneState where
  | closed
  | locked
  | armed
  | turning
  | free
deriving DecidableEq, Repr

/-- A raised completion; a commit carries its passage capture (R94, R129). -/
inductive Completion where
  | commit (capture : VenueTime)
  | expiry
  | withdrawn
deriving DecidableEq, Repr

/-- The settings that are held live and in the preload (R130). -/
structure Settings where
  /-- The arm window, in seconds. -/
  window : Nat
  /-- The commit threshold, in counts. -/
  threshold : Nat
  /-- REVERSED. -/
  reversed : Bool
deriving DecidableEq, Repr

/-- A lane's six tallies (R133). -/
structure Tallies where
  admits : BitVec 32
  exits : BitVec 32
  free : BitVec 32
  forced : BitVec 32
  refusals : BitVec 32
  phase : BitVec 32
deriving DecidableEq, Repr

/-- A lane unit (R90, R113 to R135). -/
structure LaneUnit where
  role : Role
  state : LaneState
  /-- The lane half of the hold: its direction (R90). -/
  hold : Option Side
  completion : Option Completion
  accumulator : Int
  counted : Bool
  reference : EncoderPair
  /-- Stopped, or the remaining count; a count of 0 is an expiry due and not yet taken (R125). -/
  armTimer : Option Nat
  overdue : Bool
  live : Settings
  preload : Settings
  forcedReports : Nat
  tallies : Tallies
  /-- The level of LOCKINn, true when asserted (R126). -/
  lockIn : Bool
  /-- The level of LOCKOUTn, true when asserted (R126). -/
  lockOut : Bool
deriving DecidableEq, Repr

/-! ### The Journal (spec/08_the_journal.md) -/

/-- The kinds of journal entry (R154). -/
inductive Kind where
  | admission
  | exit
  | double
  | conflict
  | snapshot
  | forced
  | evacBegin
  | evacEnd
  | linkLost
  | linkBack
deriving DecidableEq, Repr

/-- The five record fields of a record-bearing entry (R154). -/
structure RecordFields where
  ticket : Ticket
  cls : ClassNo
  zone : ZoneNo
  stateAfter : StateName
  entries : Fin 16
deriving DecidableEq, Repr

/-- A journal entry; the record fields are present in the record-bearing kinds (R154). -/
structure Entry where
  sequence : BitVec 16
  kind : Kind
  source : Source
  time : VenueTime
  fields : Option RecordFields
deriving DecidableEq, Repr

/-! ### The Gate Controller (spec/09_gate_state_link_supervision_and_evacuation.md) -/

/-- The gate state (R169); OPEN is `opened`. -/
inductive GateState where
  | closed
  | opened
  | evac
deriving DecidableEq, Repr

/-- The link state (R177). -/
inductive LinkState where
  | offline
  | online
deriving DecidableEq, Repr

/-- A gate event, which carries only its kind (R175). -/
inductive GateEvent where
  | evacBegin
  | evacEnd
  | linkLost
  | linkBack
deriving DecidableEq, Repr

/-- The reset cause (R182). -/
inductive ResetCause where
  | power
  | warm
deriving DecidableEq, Repr

/-- The Gate Controller (R169 to R182). -/
structure GateController where
  gate : GateState
  /-- The accepted EVAC level, true when asserted (R172). -/
  accepted : Bool
  previousSample : Bool
  /-- The filter has agreed on a change that has not been taken yet (R172; the model's own). -/
  evacDue : Bool
  gateId : GateId
  eventCode : EventCode
  link : LinkState
  /-- Ticks since the last well-formed frame (R177). -/
  monitorCount : Nat
  /-- A tick has brought the count to the timeout, which has not been taken yet (R178; the model's
  own). -/
  timeoutDue : Bool
  /-- The link timeout, in seconds. -/
  linkTimeout : Nat
  /-- The gate events held, oldest first (R175). -/
  events : List GateEvent
  resetCause : ResetCause
deriving DecidableEq, Repr

/-! ### Lane Link Ports (spec/10_lane_links.md) -/

/-- A well-formed lane request (R186). -/
inductive LaneRequest where
  | code (side : Side) (text : List Byte)
  | card (side : Side) (uid : Uid) (payload : List Byte)
  | cancel
  | poll
deriving DecidableEq, Repr

/-- A lane link port's request slot (R188). -/
inductive RequestSlot where
  | empty
  | waiting (r : LaneRequest)
  | inService (r : LaneRequest)
deriving DecidableEq, Repr

/-- The verdicts of a presentation (R73). -/
inductive Verdict where
  | grant
  | emergency
  | gateClosed
  | laneClosed
  | wrongSide
  | malformed
  | wrongEvent
  | badCheck
  | laneOccupied
  | unknown
  | revoked
  | heldElsewhere
  | alreadyInside
  | spent
  | notInside
  | classBarred
  | wrongLane
  | cardRequired
  | cardMismatch
  | offlineBarred
  | noTime
  | tooEarly
  | tooLate
  | cooldown
  | zoneFull
deriving DecidableEq, Repr

/-- The lane status block (R86). -/
structure StatusBlock where
  laneState : LaneState
  hold : Option (Side × Ticket)
  lastOutcome : Option LastOutcome
  forcedSincePoll : Nat
  gate : GateState
  link : LinkState
  overrun : Bool
deriving DecidableEq, Repr

/-- A verdict reply (R84). -/
structure VerdictReply where
  verdict : Verdict
  repeatMarker : Bool
  ticket : Option Ticket
  classZone : Option (ClassNo × ZoneNo)
  /-- Entries remaining and the arm window, of a GRANT (R85). -/
  figures : Option (Nat × Nat)
  block : StatusBlock
deriving DecidableEq, Repr

/-- A lane link reply (R193). -/
inductive LaneReply where
  | verdict (v : VerdictReply)
  | cancel (done : Bool) (block : StatusBlock)
  | poll (block : StatusBlock)
  | badFrame (overrun : Bool)
deriving DecidableEq, Repr

/-- A transfer on a lane link (R183, R192, R194, R195). -/
inductive Transfer where
  /-- No transfer in progress. -/
  | none
  /-- A transfer in progress that is ignored at its end. -/
  | ignored
  /-- A transfer in progress, with the reply noted at its start, and whether a newer reply has been
  placed since. -/
  | active (noted : Option LaneReply) (overtaken : Bool)
deriving DecidableEq, Repr

/-- A lane link port (R188 to R194). -/
structure Port where
  request : RequestSlot
  reply : Option LaneReply
  overrun : Bool
  /-- The level of READYn, true when asserted (R192). -/
  ready : Bool
  transfer : Transfer
deriving DecidableEq, Repr

/-! ### The Uplink Port (spec/11_the_uplink.md) -/

/-- A request that a well-formed frame carries: type byte and payload (R197). -/
structure UplinkRequest where
  type : Byte
  payload : List Byte
deriving DecidableEq, Repr

/-- The uplink request slot (R199). -/
inductive UplinkSlot where
  | empty
  | waiting (r : UplinkRequest)
  | inService (r : UplinkRequest)
  | replying (r : UplinkRequest)
deriving DecidableEq, Repr

/-- The status codes of an uplink reply (R202). -/
inductive Status where
  | ok
  | busy
  | badArg
  | badRecord
  | badCheck
  | notFound
  | tableFull
  | held
  | pendingReport
  | holdsActive
  | gateOpen
  | evacActive
  | holdActive
  | echo
  | notInside
deriving DecidableEq, Repr

/-- An uplink reply: the request's type echoed, the status and the payload (R200). -/
structure UplinkReply where
  type : Byte
  status : Status
  payload : List Byte
deriving DecidableEq, Repr

/-- The uplink receiver, with the characters of the frame so far, the start byte first (R197). -/
inductive Receiver where
  | hunt
  | header (frame : List Byte)
  /-- BODY: the length L, and the frame, complete when it has L + 5 bytes. -/
  | body (length : Nat) (frame : List Byte)
deriving DecidableEq, Repr

/-- The Uplink Port (R197 to R206). -/
structure UplinkPort where
  slot : UplinkSlot
  /-- The reply buffer, oldest first (R201). -/
  replies : List UplinkReply
  receiver : Receiver
  /-- The straps as sampled at the last reset, which give the bit rate (R196). -/
  straps : Straps
deriving DecidableEq, Repr

/-! ### The whole part -/

/-- The state of the DA608 and the queue of commands that wait. -/
structure State where
  table : Table
  pendingCount : Nat
  classes : Vector ClassRecord 32
  zones : Vector ZoneRecord 16
  clock : Clock
  contexts : Vector LaneContext 6
  /-- The round-robin pointer (R64). -/
  pointer : Lane
  turn : Turn
  /-- The item chosen by the Service Arbiter and not yet taken (R60). -/
  chosen : Option Service
  /-- A RESTART has been served: no further service is taken (R205). -/
  restarting : Bool
  /-- Commands sent to lane units and not yet taken, oldest first (R91). -/
  commands : List LaneCommand
  lanes : Vector LaneUnit 6
  /-- The journal, head first (R153). -/
  journal : List Entry
  nextSeq : BitVec 16
  watermark : Nat
  /-- The level of ATTN, true when asserted (R166). -/
  attn : Bool
  gc : GateController
  ports : Vector Port 6
  uplink : UplinkPort
  /-- The level of the EVAC input, true when asserted. -/
  evacPin : Bool
  /-- The RST input is asserted, and the part is held (R180). -/
  rstAsserted : Bool
  /-- The RESTART reply has been sent, and the warm reset is to follow (R205). -/
  warmResetDue : Bool
  /-- The commands from outside that wait, first in, first out. -/
  pending : List Instr
deriving DecidableEq, Repr

/-- A fault: what stops the machine. The spec describes no such event, so the type has no
constructor and no command faults (safe: nothing is stopped). -/
inductive Fault where
deriving DecidableEq, Repr

/-- A refusal: a command without a meaning. -/
inductive Refusal where
  /-- Raised by an arm of `exec` for a row that has no meaning yet; no arm does (safe: the run
  stops and claims nothing). -/
  | notModelled (mnemonic : String)
deriving DecidableEq, Repr

/-! ### Right after power-on reset -/

/-- A class record after power-on reset (R45). -/
def ClassRecord.reset : ClassRecord :=
  { windowOpen := 0, windowClose := 0, windowless := false, limit := 0, cooldown := 0, zone := 0,
    laneMask := 0, cardOnly := false, bind := false, offlineOk := false }

/-- A zone record after power-on reset (R50). -/
def ZoneRecord.reset : ZoneRecord := { capacity := 0, occupancy := 0, reserved := 0 }

/-- The Venue Clock after power-on reset (R54). -/
def Clock.reset : Clock := { time := ⟨0, 0⟩, valid := false }

/-- A lane context after power-on reset and after a warm reset (R72). -/
def LaneContext.empty : LaneContext :=
  { holdRef := none, lastOutcome := none, forcedSincePoll := 0 }

/-- The live and preload settings after power-on reset (R135). -/
def Settings.reset : Settings := { window := 8, threshold := 72, reversed := false }

/-- Tallies at 0 (R134, R135). -/
def Tallies.zero : Tallies :=
  { admits := 0, exits := 0, free := 0, forced := 0, refusals := 0, phase := 0 }

/-- A lane unit after power-on reset with EVAC deasserted and the encoder pair (0, 0) sampled
(R135). -/
def LaneUnit.reset : LaneUnit :=
  { role := .off, state := .closed, hold := none, completion := none, accumulator := 0,
    counted := false, reference := ⟨false, false⟩, armTimer := none, overdue := false,
    live := .reset, preload := .reset, forcedReports := 0, tallies := .zero,
    lockIn := false, lockOut := false }

/-- The Gate Controller after power-on reset with EVAC deasserted (R181). -/
def GateController.reset : GateController :=
  { gate := .closed, accepted := false, previousSample := false, evacDue := false, gateId := 0,
    eventCode := .unset, link := .offline, monitorCount := 0, timeoutDue := false,
    linkTimeout := 10, events := [], resetCause := .power }

/-- A lane link port after power-on reset with LSELn deasserted (R194). -/
def Port.reset : Port :=
  { request := .empty, reply := none, overrun := false, ready := false, transfer := .none }

/-- The Uplink Port after power-on reset with both straps low (R206). -/
def UplinkPort.reset : UplinkPort :=
  { slot := .empty, replies := [], receiver := .hunt, straps := ⟨false, false⟩ }

/-- The machine right after power-on reset: the values of R38, R45, R50, R54, R67, R72, R135, R167,
R181, R194 and R206. DESIGN CHOICE (notes/assumptions/6.md, unsafe): the input pins the spec leaves
open are EVAC, RST and every LSELn deasserted, the straps low and every encoder pair (0, 0). -/
def State.reset : State :=
  { table := [], pendingCount := 0, classes := .replicate 32 .reset, zones := .replicate 16 .reset,
    clock := .reset, contexts := .replicate 6 .empty, pointer := 0, turn := .lane, chosen := none,
    restarting := false, commands := [], lanes := .replicate 6 .reset, journal := [], nextSeq := 0,
    watermark := 64, attn := false, gc := .reset, ports := .replicate 6 .reset, uplink := .reset,
    evacPin := false, rstAsserted := false, warmResetDue := false, pending := [] }

end Sys2Proof.Machine
end

