-- ==== Sys2Proof/Machine/Bytes.lean ====
section
/-! DEFINITION. Bits, bytes, multi-byte fields, packed decimal digits and check sums: how values travel
on the links (R1, R12, R13, R14, R183, R185, R197). -/

namespace Sys2Proof.Machine

/-- One bit as a number. -/
def bitValue (b : Bool) : Nat := if b then 1 else 0

/-- The whole bytes of a lane link transfer, most significant bit first; a partial byte at the end is
discarded (R183). -/
def bytesOfBits : List Bool → List Byte
  | b7 :: b6 :: b5 :: b4 :: b3 :: b2 :: b1 :: b0 :: rest =>
    BitVec.ofNat 8 (128 * bitValue b7 + 64 * bitValue b6 + 32 * bitValue b5 + 16 * bitValue b4
      + 8 * bitValue b3 + 4 * bitValue b2 + 2 * bitValue b1 + bitValue b0) :: bytesOfBits rest
  | _ => []

/-- The byte at a position of a payload, 0x00 past its end. -/
def byteAt (p : List Byte) (i : Nat) : Byte := p.getD i 0

/-- The bytes of a payload from a position on, a given number of them. -/
def bytesAt (p : List Byte) (i n : Nat) : List Byte := (p.drop i).take n

/-- A two-byte field, most significant byte first (R1). -/
def field16 (p : List Byte) (i : Nat) : BitVec 16 :=
  BitVec.ofNat 16 (256 * (byteAt p i).toNat + (byteAt p (i + 1)).toNat)

/-- A four-byte field, most significant byte first (R1). -/
def field32 (p : List Byte) (i : Nat) : BitVec 32 :=
  BitVec.ofNat 32 (65536 * (field16 p i).toNat + (field16 p (i + 2)).toNat)

/-- A number as one byte. -/
def byteOf (n : Nat) : Byte := BitVec.ofNat 8 n

/-- A two-byte field as sent (R1). -/
def bytes16 (n : Nat) : List Byte := [byteOf (n / 256), byteOf n]

/-- A four-byte field as sent (R1). -/
def bytes32 (v : BitVec 32) : List Byte := bytes16 (v.toNat / 65536) ++ bytes16 (v.toNat % 65536)

/-- A mark or flag as one byte: 0x00 clear, 0x01 set (R207). -/
def byteOfBool (b : Bool) : Byte := if b then 1 else 0

/-- The 8-bit sum of bytes, carries discarded (R185, R197). -/
def sum8 (l : List Byte) : Byte := l.foldl (· + ·) 0

/-- The check byte that makes a run of bytes sum to 0x00 (R185, R197). -/
def checkByte (l : List Byte) : Byte := -(sum8 l)

/-- Bit `i` of a byte. -/
def bitAt (b : Byte) (i : Nat) : Bool := b.getLsbD i

/-! ### Packed decimal digits -/

/-- A nibble as a decimal digit, refused above 9. -/
def digit? (n : Nat) : Option Digit := if h : n < 10 then some ⟨n, h⟩ else none

/-- The nibbles of bytes, the high nibble of each byte first (R9, R14). -/
def nibbles : List Byte → List Nat
  | [] => []
  | b :: rest => b.toNat / 16 :: b.toNat % 16 :: nibbles rest

/-- Numbers as decimal digits, refused when one is above 9. -/
def digits? : List Nat → Option (List Digit)
  | [] => some []
  | n :: rest =>
    match digit? n, digits? rest with
    | some d, some ds => some (d :: ds)
    | _, _ => none

/-- Sixteen digits as a ticket number. -/
def ticketOfDigits? (l : List Digit) : Option Ticket :=
  if h : l.length = 16 then some ⟨l.toArray, by simpa using h⟩ else none

/-- Eight bytes of packed decimal digits as a ticket number (R14); refused when a nibble is above 9
(R15). -/
def ticketOfBytes? (l : List Byte) : Option Ticket :=
  match digits? (nibbles l) with
  | some ds => ticketOfDigits? ds
  | none => none

/-- Digits packed two to a byte, the first in the high nibble. -/
def packDigits : List Digit → List Byte
  | a :: b :: rest => byteOf (16 * a.val + b.val) :: packDigits rest
  | _ => []

/-- A ticket number as it travels: eight bytes of packed decimal digits (R14). -/
def ticketBytes (t : Ticket) : List Byte := packDigits t.toList

/-- One byte of two packed decimal digits as an event code, tens in the high nibble (R176). -/
def eventCodeOfByte? (b : Byte) : Option EventCode :=
  match digit? (b.toNat / 16), digit? (b.toNat % 16) with
  | some t, some u => some ⟨t, u⟩
  | _, _ => none

/-- An event code as one byte of packed decimal digits (R204). -/
def eventCodeByte (e : EventCode) : Byte := byteOf (16 * e.tens.val + e.units.val)

/-! ### The check digit -/

/-- The sum of digits weighted 3, 1, 3, 1, and so on from the first (R12, step 2). -/
def weightedSum : List Digit → Nat
  | [] => 0
  | [a] => 3 * a.val
  | a :: b :: rest => 3 * a.val + b.val + weightedSum rest

/-- The check value of a ticket number, from its fifteen data digits d1..d15 (R12). -/
def checkValue (t : Ticket) : Nat := (10 - weightedSum (t.toList.take 15) % 10) % 10

/-- A ticket number is well formed when d16 equals its check value (R13). -/
def ticketWellFormed (t : Ticket) : Bool := decide (t[15].val = checkValue t)

end Sys2Proof.Machine
end

