-- ==== Sys2Proof/Machine/Ops.lean ====
section
/-! DEFINITION. The operations that the commands share: over the Admission Table, the zones, the
journal, the gate events, the lane units, the ports and the Decision Engine's services. -/

namespace Sys2Proof.Machine

/-! ### The Admission Table (R17 to R19) -/

/-- The record in a slot, if the slot is occupied. -/
def Table.get? : Table → Nat → Option Record
  | [], _ => none
  | (k, r) :: rest, slot => if k = slot then some r else Table.get? rest slot

/-- The slot and record of a ticket number, if it is in the table (R18). -/
def Table.lookup : Table → Ticket → Option (Nat × Record)
  | [], _ => none
  | (k, r) :: rest, t => if r.ticket = t then some (k, r) else Table.lookup rest t

/-- Write a record into an occupied slot. -/
def Table.set : Table → Nat → Record → Table
  | [], _, _ => []
  | (k, r) :: rest, slot, q => if k = slot then (k, q) :: rest else (k, r) :: Table.set rest slot q

/-- The lowest slot from `n` on that a table whose slots all lie at `n` or above leaves free. -/
def Table.lowestFreeFrom : Table → Nat → Nat
  | [], n => n
  | (k, _) :: rest, n => if k = n then Table.lowestFreeFrom rest (n + 1) else n

/-- The lowest-numbered free slot (R19). -/
def Table.lowestFree (t : Table) : Nat := t.lowestFreeFrom 0

/-- Put a record into a free slot, keeping the slots in order. -/
def Table.insert : Table → Nat → Record → Table
  | [], slot, q => [(slot, q)]
  | (k, r) :: rest, slot, q =>
    if slot < k then (slot, q) :: (k, r) :: rest else (k, r) :: Table.insert rest slot q

/-- Free a slot (R35). -/
def Table.erase : Table → Nat → Table
  | [], _ => []
  | (k, r) :: rest, slot => if k = slot then rest else (k, r) :: Table.erase rest slot

/-- Slots strictly rising, from a least slot on and below the capacity. -/
def Table.wfFrom : Table → Nat → Bool
  | [], _ => true
  | (k, _) :: rest, n => decide (n ≤ k) && decide (k < Config.tableCapacity) && Table.wfFrom rest (k + 1)

/-- The canonical form: slots strictly rising, each 0..16,383 (R17). -/
def Table.wf (t : Table) : Bool := t.wfFrom 0

/-- The hold of a HELD record. -/
def Record.hold? (r : Record) : Option Hold :=
  match r.state with
  | .held h => some h
  | _ => none

/-- The record is HELD. -/
def Record.isHeld (r : Record) : Bool := r.hold?.isSome

/-- The slots whose records a lane holds, in slot order. -/
def Table.slotsHeldBy (t : Table) (n : Lane) : List Nat :=
  (t.filter fun e => e.2.hold?.any (·.lane = n)).map Prod.fst

/-- The first slot whose record owes a report, with its record (R162). -/
def Table.firstPending (t : Table) : Option (Nat × Record) := t.find? (·.2.pendingReport)

/-! ### Names of states -/

/-- The name of a record's state. -/
def RecordState.name : RecordState → StateName
  | .valid => .valid
  | .held _ => .held
  | .inside => .inside
  | .outside => .outside
  | .spent => .spent
  | .revoked => .revoked

/-- The record state that a prior state is. -/
def PriorState.state : PriorState → RecordState
  | .valid => .valid
  | .outside => .outside
  | .inside => .inside

/-- The name of a record's state as a journal entry reports it: a HELD record in its hold's prior
state (R156). -/
def Record.reportedState (r : Record) : StateName :=
  match r.state with
  | .held h => h.prior.state.name
  | s => s.name

/-- Entries used raised by 1, saturating at 15 (R21). -/
def raiseEntries (e : Fin 16) : Fin 16 := if h : e.val + 1 < 16 then ⟨e.val + 1, h⟩ else e

/-! ### Classes and zones -/

/-- The class record of a ticket record, as it stands (R20). -/
def State.classOf (s : State) (r : Record) : ClassRecord := s.classes.get r.cls

/-- The zone of a ticket record's class, as it stands (R42). -/
def State.zoneOf (s : State) (r : Record) : ZoneNo := (s.classOf r).zone

/-- Change one zone record. -/
def State.modifyZone (s : State) (z : ZoneNo) (f : ZoneRecord → ZoneRecord) : State :=
  { s with zones := s.zones.set z (f (s.zones.get z)) }

/-- Occupancy raised by 1, saturating at 65,535 (R47). -/
def ZoneRecord.countIn (z : ZoneRecord) : ZoneRecord :=
  { z with occupancy := if z.occupancy = 0xFFFF then 0xFFFF else z.occupancy + 1 }

/-- Occupancy lowered by 1, saturating at 0 (R47). -/
def ZoneRecord.countOut (z : ZoneRecord) : ZoneRecord :=
  { z with occupancy := if z.occupancy = 0 then 0 else z.occupancy - 1 }

/-- One more place reserved (R48). -/
def ZoneRecord.reserve (z : ZoneRecord) : ZoneRecord := { z with reserved := z.reserved + 1 }

/-- One reserved place given up (R48). -/
def ZoneRecord.release (z : ZoneRecord) : ZoneRecord := { z with reserved := z.reserved - 1 }

/-- Change the zone a hold reserved, if it reserved one. -/
def State.modifyReservedZone (s : State) (h : Hold) (f : ZoneRecord → ZoneRecord) : State :=
  match h.reservedZone with
  | some z => s.modifyZone z f
  | none => s

/-! ### Access by lane and by slot -/

/-- Change one lane unit. -/
def State.setLane (s : State) (n : Lane) (lu : LaneUnit) : State :=
  { s with lanes := s.lanes.set n lu }

/-- Change one lane context. -/
def State.setContext (s : State) (n : Lane) (c : LaneContext) : State :=
  { s with contexts := s.contexts.set n c }

/-- Change one lane link port. -/
def State.setPort (s : State) (n : Lane) (p : Port) : State :=
  { s with ports := s.ports.set n p }

/-- Write the record of an occupied slot. -/
def State.setRecord (s : State) (slot : Nat) (r : Record) : State :=
  { s with table := s.table.set slot r }

/-! ### The journal and ATTN (R153 to R161, R166) -/

/-- ATTN's condition: the depth is at or above the watermark, or a report is pending (R166). -/
def State.attnCondition (s : State) : Bool :=
  decide (s.watermark ≤ s.journal.length) || decide (0 < s.pendingCount)

/-- ATTN takes the level of its condition (R166, R203). -/
def State.driveAttn (s : State) : State := { s with attn := s.attnCondition }

/-- The journal has room for an entry (R153). -/
def State.journalHasRoom (s : State) : Bool := decide (s.journal.length < Config.journalCapacity)

/-- Append an entry at the tail with the next sequence number (R153, R157). -/
def State.append (s : State) (kind : Kind) (source : Source) (time : VenueTime)
    (fields : Option RecordFields) : State :=
  State.driveAttn
    { s with
      journal := s.journal ++
        [{ sequence := s.nextSeq, kind := kind, source := source, time := time, fields := fields }]
      nextSeq := s.nextSeq + 1 }

/-- Set the pending-report flag of a slot's record, and count it once (R30, R159). -/
def State.flagPending (s : State) (slot : Nat) : State :=
  match s.table.get? slot with
  | some r =>
    if r.pendingReport then s
    else
      State.driveAttn
        { s.setRecord slot { r with pendingReport := true } with
          pendingCount := s.pendingCount + 1 }
  | none => s

/-- The record fields of an entry built from a record (R154, R156). -/
def Record.fields (r : Record) (zone : ZoneNo) : RecordFields :=
  { ticket := r.ticket, cls := r.cls, zone := zone, stateAfter := r.reportedState,
    entries := r.entries }

/-- Journal a record-bearing entry built from the record in a slot; when the journal is full, the
record owes a report instead (R159, R161). -/
def State.report (s : State) (slot : Nat) (r : Record) (kind : Kind) (source : Source)
    (time : VenueTime) (zone : ZoneNo) : State :=
  if s.journalHasRoom then s.append kind source time (some (r.fields zone)) else s.flagPending slot

/-- Journal a record-less entry; when the journal is full it is dropped (R160). -/
def State.reportRecordless (s : State) (kind : Kind) (source : Source) (time : VenueTime) : State :=
  if s.journalHasRoom then s.append kind source time none else s

/-! ### Gate events (R175) -/

/-- Raise a gate event; an event raised while 4 are held is not held (R175). -/
def GateController.raise (g : GateController) (e : GateEvent) : GateController :=
  { g with events := if g.events.length < Config.gateEventCapacity then g.events ++ [e] else g.events }

/-! ### Lane units -/

/-- The sign of a direction: +1 for IN, −1 for OUT (R90). -/
def Side.sign : Side → Int
  | .IN => 1
  | .OUT => -1

/-- The other direction. -/
def Side.opposite : Side → Side
  | .IN => .OUT
  | .OUT => .IN

/-- The lane state in which a hold keeps a lock released (R126). -/
def LaneState.underHold : LaneState → Bool
  | .armed => true
  | .turning => true
  | _ => false

/-- LOCKINn by the table of R126. -/
def LaneUnit.lockInLevel (lu : LaneUnit) : Bool :=
  lu.state == .free || (lu.state.underHold && lu.hold == some .IN)

/-- LOCKOUTn by the table of R126. -/
def LaneUnit.lockOutLevel (lu : LaneUnit) : Bool :=
  lu.state == .free || (lu.state.underHold && lu.hold == some .OUT)
    || (lu.state == .locked && lu.role == .freeExit)

/-- The lock outputs follow the lane state, the role and the hold's direction (R126). -/
def LaneUnit.driveLocks (lu : LaneUnit) : LaneUnit :=
  { lu with lockIn := lu.lockInLevel, lockOut := lu.lockOutLevel }

/-- The resting state: CLOSED for role OFF, LOCKED for every other role (R118). -/
def Role.restingState : Role → LaneState
  | .off => .closed
  | _ => .locked

/-- Go to a lane state, the lock outputs with it. -/
def LaneUnit.goTo (lu : LaneUnit) (st : LaneState) : LaneUnit :=
  LaneUnit.driveLocks { lu with state := st }

/-- Raise a completion; a lane unit raises one only while its record is empty (R129). -/
def LaneUnit.raise (lu : LaneUnit) (c : Completion) : LaneUnit :=
  { lu with completion := lu.completion.or (some c) }

/-- The preload becomes live, all three settings together (R130). -/
def LaneUnit.loadPreload (lu : LaneUnit) : LaneUnit := { lu with live := lu.preload }

/-- The preload becomes live where R130 allows it: no record is named, no hold, and A at 0. -/
def LaneUnit.settlePreload (lu : LaneUnit) (recordNamed : Bool) : LaneUnit :=
  if recordNamed = false ∧ lu.hold = none ∧ lu.accumulator = 0 then lu.loadPreload else lu

/-- The relock of a CANCEL: timer stopped, locks of LOCKED, state LOCKED, no completion (R88). -/
def LaneUnit.relock (lu : LaneUnit) : LaneUnit :=
  LaneUnit.goTo { lu with armTimer := none } .locked

/-- An arm command taken: at LOCKED it begins the hold and arms the lane (R92); at FREE it begins the
hold and raises a withdrawn completion (R93). Either way it clears the overdue mark (R125). It meets no
other state (R92). -/
def LaneUnit.takeArm (lu : LaneUnit) (d : Side) : LaneUnit :=
  match lu.state with
  | .locked =>
    LaneUnit.goTo
      { lu with
        hold := some d
        armTimer := some (lu.live.window * Config.ticksPerSecond)
        overdue := false }
      .armed
  | .free => LaneUnit.raise { lu with hold := some d, overdue := false } .withdrawn
  | _ => lu

/-- A withdraw command taken: an ARMED lane relocks and raises a withdrawn completion; in any other
state the command is ignored (R107). -/
def LaneUnit.takeWithdraw (lu : LaneUnit) : LaneUnit :=
  match lu.state with
  | .armed => lu.relock.raise .withdrawn
  | _ => lu

/-- FREE taken at a lane unit: both locks released and the overdue mark cleared, in every state (R125);
ARMED and TURNING stop the timer and raise a withdrawn completion (R109, R173). -/
def LaneUnit.takeFree (lu : LaneUnit) : LaneUnit :=
  match lu.state with
  | .armed => (LaneUnit.goTo { lu with armTimer := none, overdue := false } .free).raise .withdrawn
  | .turning => (LaneUnit.goTo { lu with armTimer := none, overdue := false } .free).raise .withdrawn
  | _ => LaneUnit.goTo { lu with overdue := false } .free

/-- unFREE taken at a lane unit: a FREE lane takes its role's resting state and keeps a raised
completion (R110, R174). -/
def LaneUnit.takeUnfree (lu : LaneUnit) : LaneUnit :=
  match lu.state with
  | .free => lu.goTo lu.role.restingState
  | _ => lu

/-- The arm timer's expiry taken: an ARMED lane relocks and raises an expiry completion, a TURNING
lane becomes overdue (R125). The timer is stopped either way. -/
def LaneUnit.takeExpiry (lu : LaneUnit) : LaneUnit :=
  match lu.state with
  | .armed => lu.relock.raise .expiry
  | .turning => { lu with armTimer := none, overdue := true }
  | _ => { lu with armTimer := none }

/-- One tick of a running arm timer; a count that has reached 0 waits for its expiry (R125). -/
def LaneUnit.tickTimer (lu : LaneUnit) : LaneUnit :=
  { lu with armTimer := lu.armTimer.map (· - 1) }

/-- The lane unit's hold ends: the hold and its raised completion are cleared, and a preload may
become live, since the context no longer names a record (R96, R130). -/
def LaneUnit.endHold (lu : LaneUnit) : LaneUnit :=
  LaneUnit.settlePreload { lu with hold := none, completion := none } false

/-- A presentation refused at the lane (R83). -/
def LaneUnit.countRefusal (lu : LaneUnit) : LaneUnit :=
  { lu with tallies := { lu.tallies with refusals := lu.tallies.refusals + 1 } }

/-- A command taken at its lane unit (R91). -/
def State.takeLaneCommand (s : State) (c : LaneCommand) : State :=
  match c with
  | .arm n d => s.setLane n ((s.lanes.get n).takeArm d)
  | .withdraw n => s.setLane n (s.lanes.get n).takeWithdraw

/-- Every command in flight is taken, in the order sent (R91). -/
def State.settleCommands (s : State) : State :=
  s.commands.foldl State.takeLaneCommand { s with commands := [] }

/-- FREE or unFREE taken at all six lane units in one event (R173, R174). -/
def State.mapLanes (s : State) (f : LaneUnit → LaneUnit) : State :=
  { s with lanes := s.lanes.map f }

/-! ### Ending a hold (R96 to R105) -/

/-- The record a lane holds, with its slot and hold: the record its context names (R69). -/
def State.heldAt (s : State) (n : Lane) : Option (Nat × Record × Hold) :=
  match (s.contexts.get n).holdRef with
  | some ref =>
    match s.table.get? ref.slot with
    | some r => r.hold?.map fun h => (ref.slot, r, h)
    | none => none
  | none => none

/-- The record after a non-commit end, chosen by the hold's direction and marks (R101). -/
def Record.afterNonCommit (r : Record) (h : Hold) : Record :=
  match h.direction, h.remoteMark, h.revokeMark with
  | .IN, none, false => { r with state := h.prior.state }
  | .IN, some m, false =>
    { r with
      state := .inside
      entries := raiseEntries r.entries
      lastPassage := some ⟨m.time, .gate m.gate⟩ }
  | .OUT, _, false => { r with state := .inside }
  | _, _, true => { r with state := .revoked }

/-- A non-commit end of the hold of the record in a slot: the record, the reserved place and, for an
entry hold with a remote mark, a CONFLICT entry at the given time (R97, R101). -/
def State.endNonCommit (s : State) (slot : Nat) (r : Record) (h : Hold) (now : VenueTime) : State :=
  let r' := r.afterNonCommit h
  let s := (s.setRecord slot r').modifyReservedZone h ZoneRecord.release
  match h.direction, h.remoteMark with
  | .IN, some _ =>
    s.report slot r' .conflict (.lane h.lane) now (h.reservedZone.getD (s.zoneOf r'))
  | _, _ => s

/-- The card binding after an entry commit (R23, R98). -/
def Record.bindingAfterEntry (r : Record) (h : Hold) (c : ClassRecord) : Option Uid :=
  match r.binding with
  | some u => some u
  | none => if c.bind then h.uid else none

/-- The record after the commit of an entry hold (R98, R100). -/
def Record.afterEntryCommit (r : Record) (h : Hold) (c : ClassRecord) (capture : VenueTime) : Record :=
  { r with
    state := if h.revokeMark then .revoked else .inside
    entries :=
      if h.remoteMark.isSome then raiseEntries (raiseEntries r.entries) else raiseEntries r.entries
    lastPassage := some ⟨capture, .lane h.lane⟩
    binding := r.bindingAfterEntry h c }

/-- OUTSIDE while entries used is below the class's entry limit, SPENT otherwise (R55). -/
def outsideOrSpent (entries limit : Fin 16) : RecordState :=
  if entries < limit then .outside else .spent

/-- The record after the commit of an exit hold (R99, R100). -/
def Record.afterExitCommit (r : Record) (h : Hold) (c : ClassRecord) (capture : VenueTime) : Record :=
  { r with
    state := if h.revokeMark then .revoked else outsideOrSpent r.entries c.limit
    lastPassage := some ⟨capture, .lane h.lane⟩ }

/-- The commit of the hold of the record in a slot: record, zone counts and journal entry (R97 to
R100). -/
def State.endCommit (s : State) (slot : Nat) (r : Record) (h : Hold) (capture : VenueTime) : State :=
  let c := s.classOf r
  match h.direction with
  | .IN =>
    let r' := r.afterEntryCommit h c capture
    let s := (s.setRecord slot r').modifyReservedZone h fun z => z.release.countIn
    s.report slot r' (if h.remoteMark.isSome then .double else .admission) (.lane h.lane) capture
      (h.reservedZone.getD c.zone)
  | .OUT =>
    let r' := r.afterExitCommit h c capture
    let s := (s.setRecord slot r').modifyZone c.zone ZoneRecord.countOut
    s.report slot r' .exit (.lane h.lane) capture c.zone

/-- The lane's side of a hold's end: the context's reference goes and its outcome is written, and the
lane unit's hold ends (R96). -/
def State.closeHold (s : State) (n : Lane) (howEnded : HoldEnd) (ticket : Ticket) : State :=
  (s.setContext n
    { s.contexts.get n with holdRef := none, lastOutcome := some ⟨howEnded, ticket⟩ }).setLane n
    (s.lanes.get n).endHold

/-! ### Replies -/

/-- The reply with its overrun marker written (R191). -/
def LaneReply.withOverrun (r : LaneReply) (o : Bool) : LaneReply :=
  match r with
  | .verdict v => .verdict { v with block := { v.block with overrun := o } }
  | .cancel done b => .cancel done { b with overrun := o }
  | .poll b => .poll { b with overrun := o }
  | .badFrame _ => .badFrame o

/-- A transfer in progress learns that a newer reply has been placed (R192). -/
def Transfer.overtake : Transfer → Transfer
  | .active noted _ => .active noted true
  | t => t

/-- Place a reply: the overrun marker is copied into it and cleared, the slot becomes FULL, and READY
is asserted (R191). -/
def Port.place (p : Port) (r : LaneReply) : Port :=
  { p with
    reply := some (r.withOverrun p.overrun)
    overrun := false
    ready := true
    transfer := p.transfer.overtake }

/-! ### Taking a service (R59, R60) -/

/-- The chosen item that the DE may take: none while RST is asserted (R180) or after a RESTART has
been served (R205). DESIGN CHOICE (notes/assumptions/21.md): an item chosen and not taken when RST is
asserted is not taken at all. -/
def State.serving (s : State) : Option Service :=
  if s.rstAsserted || s.restarting then none else s.chosen

/-- A service that leaves the round-robin pointer and the turn marker is over. -/
def State.finish (s : State) : State := { s with chosen := none }

/-- The lane request that the DE may take: the lane and its request IN_SERVICE (R188). -/
def State.laneRequestInService (s : State) : Option (Lane × LaneRequest) :=
  match s.serving with
  | some (.laneRequest n) =>
    match (s.ports.get n).request with
    | .inService r => some (n, r)
    | _ => none
  | _ => none

/-- The end of a lane request's service: the reply is placed and the request slot becomes EMPTY
(R188, R191); the pointer moves past the lane and the turn marker becomes UPLINK (R64, R65). -/
def State.finishLaneRequest (s : State) (n : Lane) (r : LaneReply) : State :=
  { s.setPort n { (s.ports.get n).place r with request := .empty } with
    chosen := none, pointer := n.next, turn := .uplink }

/-- The status and payload with which a service answers an uplink request. -/
structure Answer where
  status : Status
  payload : List Byte
deriving DecidableEq, Repr

/-- An answer with a status other than OK, which carries no payload (R200). -/
def Answer.refuse (st : Status) : Answer := ⟨st, []⟩

/-- An OK answer. -/
def Answer.ok (payload : List Byte) : Answer := ⟨.ok, payload⟩

/-- The uplink request that the DE may take (R199). -/
def State.uplinkRequestInService (s : State) : Option UplinkRequest :=
  match s.serving, s.uplink.slot with
  | some .uplinkRequest, .inService r => some r
  | _, _ => none

/-- The end of an uplink service: the reply is placed in the reply buffer, the slot becomes REPLYING
(R199), and the turn marker becomes LANE (R65). -/
def State.finishUplink (s : State) (r : UplinkRequest) (a : Answer) : State :=
  { s with
    uplink :=
      { s.uplink with
        slot := .replying r
        replies := s.uplink.replies ++ [⟨r.type, a.status, a.payload⟩] }
    chosen := none
    turn := .lane }

end Sys2Proof.Machine
end

