-- ==== Sys2Proof/Machine/Frames.lean ====
section
/-! DEFINITION. The frames of the links: a lane link's request frame and its checks (R184 to R187), the
bytes of the lane link replies (R193, R211), the uplink characters and frames (R196 to R198) and the
bytes of an uplink reply (R200). -/

namespace Sys2Proof.Machine

/-! ### Request frames of a lane link -/

/-- What the inbound bytes of a transfer are (R184). -/
inductive Inbound where
  | noRequest
  | badFrame
  | request (r : LaneRequest)
deriving DecidableEq, Repr

/-- The side codes of R186: 0x01 IN, 0x02 OUT. -/
def side? (b : Byte) : Option Side :=
  if b = 0x01 then some .IN else if b = 0x02 then some .OUT else none

/-- The request a frame names by its type byte and content, the check byte left off: `body` is what
stands between the type byte and the check byte (R186, R187). -/
def laneRequestOf (type : Byte) (body : List Byte) : Inbound :=
  if type = 0x41 then
    match body with
    | side :: text =>
      match side? side with
      | some d => .request (.code d text)
      | none => .badFrame
    | [] => .badFrame
  else if type = 0x42 then
    match body with
    | side :: uidLength :: rest =>
      match side? side with
      | some d =>
        if uidLength.toNat ≤ rest.length then
          .request (.card d (rest.take uidLength.toNat) (rest.drop uidLength.toNat))
        else .badFrame
      | none => .badFrame
    | _ => .badFrame
  else if type = 0x43 then
    if body = [] then .request .cancel else .badFrame
  else if type = 0x44 then
    if body = [] then .request .poll else .badFrame
  else .badFrame

/-- The inbound bytes of a transfer, read as a request frame or as no request (R184, R185, R187). -/
def parseInbound (bytes : List Byte) : Inbound :=
  match bytes with
  | [] => .noRequest
  | len :: rest =>
    if len = 0 then .noRequest
    else if len.toNat < 2 ∨ 48 < len.toNat then .badFrame
    else if rest.length < len.toNat then .badFrame
    else if sum8 (len :: rest.take len.toNat) ≠ 0 then .badFrame
    else
      match rest.take (len.toNat - 1) with
      | type :: body => laneRequestOf type body
      | [] => .badFrame

/-! ### Replies of a lane link -/

/-- The codes of the record states (R208). -/
def StateName.code : StateName → Byte
  | .valid => 0x01
  | .held => 0x02
  | .inside => 0x03
  | .outside => 0x04
  | .spent => 0x05
  | .revoked => 0x06

/-- The codes of the lane states (R211). -/
def LaneState.code : LaneState → Byte
  | .closed => 0x00
  | .locked => 0x01
  | .armed => 0x02
  | .turning => 0x03
  | .free => 0x04

/-- The codes of the gate states (R204). -/
def GateState.code : GateState → Byte
  | .closed => 0x00
  | .opened => 0x01
  | .evac => 0x02

/-- The codes of the link states (R204). -/
def LinkState.code : LinkState → Byte
  | .offline => 0x00
  | .online => 0x01

/-- The codes of a direction in a reply: 0x01 IN, 0x02 OUT (R208, R211). -/
def Side.code : Side → Byte
  | .IN => 0x01
  | .OUT => 0x02

/-- The codes of the last hold outcome (R211). -/
def HoldEnd.code : HoldEnd → Byte
  | .committed => 0x01
  | .expired => 0x02
  | .cancelled => 0x03
  | .withdrawn => 0x04

/-- The reply codes of the verdicts (R211). -/
def Verdict.code : Verdict → Byte
  | .grant => 0x01
  | .emergency => 0x02
  | .gateClosed => 0x03
  | .laneClosed => 0x04
  | .wrongSide => 0x05
  | .malformed => 0x06
  | .wrongEvent => 0x07
  | .badCheck => 0x08
  | .laneOccupied => 0x09
  | .unknown => 0x0A
  | .revoked => 0x0B
  | .heldElsewhere => 0x0C
  | .alreadyInside => 0x0D
  | .spent => 0x0E
  | .notInside => 0x0F
  | .classBarred => 0x10
  | .wrongLane => 0x11
  | .cardRequired => 0x12
  | .cardMismatch => 0x13
  | .offlineBarred => 0x14
  | .noTime => 0x15
  | .tooEarly => 0x16
  | .tooLate => 0x17
  | .cooldown => 0x18
  | .zoneFull => 0x19

/-- A ticket number in a reply, 0x00 bytes when absent (R211). -/
def optionalTicketBytes : Option Ticket → List Byte
  | some t => ticketBytes t
  | none => List.replicate 8 0

/-- The 23 bytes of the lane status block (R211). -/
def StatusBlock.bytes (b : StatusBlock) : List Byte :=
  [b.laneState.code, (b.hold.map fun h => h.1.code).getD 0x00]
    ++ optionalTicketBytes (b.hold.map Prod.snd)
    ++ [(b.lastOutcome.map fun o => o.howEnded.code).getD 0x00]
    ++ optionalTicketBytes (b.lastOutcome.map (·.ticket))
    ++ [byteOf b.forcedSincePoll, b.gate.code, b.link.code, byteOfBool b.overrun]

/-- The presence byte of a verdict reply (R211). -/
def VerdictReply.presence (v : VerdictReply) : Byte :=
  byteOf (bitValue v.repeatMarker + 2 * bitValue v.ticket.isSome + 4 * bitValue v.classZone.isSome
    + 8 * bitValue v.figures.isSome)

/-- The bytes of a reply between its length byte and its check byte (R193, R211). -/
def LaneReply.content : LaneReply → List Byte
  | .verdict v =>
    [v.verdict.code, v.presence]
      ++ optionalTicketBytes v.ticket
      ++ [byteOf ((v.classZone.map fun c => c.1.val).getD 0),
          byteOf ((v.classZone.map fun c => c.2.val).getD 0),
          byteOf ((v.figures.map Prod.fst).getD 0), byteOf ((v.figures.map Prod.snd).getD 0)]
      ++ v.block.bytes
  | .cancel done b => (if done then 0x20 else 0x21) :: b.bytes
  | .poll b => 0x22 :: b.bytes
  | .badFrame o => [0x2F, byteOfBool o]

/-- A lane link reply as sent: length byte, content and check byte (R193). -/
def LaneReply.frame (r : LaneReply) : List Byte :=
  let body := byteOf (r.content.length + 1) :: r.content
  body ++ [checkByte body]

/-- The byte that LSOn carries at a position of a lane's transfer: the noted reply's bytes, then filler
(R183, R192); filler alone while RST is asserted (R195); none outside a transfer, when LSOn is not driven
(R183). DESIGN CHOICE (notes/assumptions/20.md): an ignored transfer carries filler alone. -/
def State.laneOutByte (s : State) (n : Lane) (i : Nat) : Option Byte :=
  match (s.ports.get n).transfer with
  | .none => none
  | .ignored => some 0x00
  | .active noted _ =>
    some (if s.rstAsserted then 0x00 else
      match noted with
      | some r => byteAt r.frame i
      | none => 0x00)

/-- The bit that LSOn presents at a clock of a lane's transfer, counted from 0: each byte's most significant
bit first; none when LSOn is not driven (R183). -/
def State.laneOutBit (s : State) (n : Lane) (i : Nat) : Option Bool :=
  (s.laneOutByte n (i / 8)).map fun b => bitAt b (7 - i % 8)

/-! ### Uplink characters and frames -/

/-- The number of ones among a character's data bits. -/
def onesOf (b : Byte) : Nat :=
  ([0, 1, 2, 3, 4, 5, 6, 7].filter fun i => bitAt b i).length

/-- A character has a parity error when the ones among its data and parity bits are not even in number
(R196). -/
def parityError (c : Character) : Bool := decide ((onesOf c.data + bitValue c.parity) % 2 = 1)

/-- A character has a framing error when its stop bit is found at the start level (R196). -/
def framingError (c : Character) : Bool := !c.stop

/-- The character is received without parity or framing error (R197). -/
def sound (c : Character) : Bool := !parityError c && !framingError c

/-- A character with even parity and the stop bit at the stop level, as the DA608 sends every character
(R196). -/
def soundCharacter (b : Byte) : Character := ⟨b, decide (onesOf b % 2 = 1), true⟩

/-- The levels of a character on the line, one for each bit time, true for the stop level: start bit, data
bits with the least significant first, parity bit, stop bit (R196). PRESUMED (notes/assumptions/22.md): a bit
of 1 stands at the stop level. -/
def lineLevels (c : Character) : List Bool :=
  false :: ([0, 1, 2, 3, 4, 5, 6, 7].map fun i => bitAt c.data i) ++ [c.parity, c.stop]

/-- The receiver after one character, when no complete frame waits in it (R197, R198). -/
def Receiver.take (rx : Receiver) (c : Character) : Receiver :=
  match rx with
  | .hunt => if sound c ∧ c.data = 0xA5 then .header [c.data] else .hunt
  | .header frame =>
    if sound c then
      if frame.length < 2 then .header (frame ++ [c.data])
      else
        let length := 256 * (byteAt frame 1).toNat + c.data.toNat
        if Config.maxPayload < length then .hunt else .body length (frame ++ [c.data])
    else .hunt
  | .body length frame => if sound c then .body length (frame ++ [c.data]) else .hunt

/-- The frame in the receiver, once its last character has been received (R197). -/
def Receiver.complete? : Receiver → Option (List Byte)
  | .body length frame => if length + 5 ≤ frame.length then some frame else none
  | _ => none

/-- The request that a well-formed frame carries: the type byte at 3, then L payload bytes (R197). -/
def requestOfFrame (frame : List Byte) : UplinkRequest :=
  ⟨byteAt frame 3, bytesAt frame 4 (frame.length - 5)⟩

/-- The codes of the statuses (R202). -/
def Status.code : Status → Byte
  | .ok => 0x00
  | .busy => 0x01
  | .badArg => 0x02
  | .badRecord => 0x03
  | .badCheck => 0x04
  | .notFound => 0x05
  | .tableFull => 0x06
  | .held => 0x07
  | .pendingReport => 0x08
  | .holdsActive => 0x09
  | .gateOpen => 0x0A
  | .evacActive => 0x0B
  | .holdActive => 0x0C
  | .echo => 0x0D
  | .notInside => 0x0E

/-- An uplink reply as sent: start byte, two length bytes, type, status, payload, check byte. The length
counts the bytes between the type byte and the check byte (R200). -/
def UplinkReply.frame (r : UplinkReply) : List Byte :=
  let body := 0xA5 :: bytes16 (r.payload.length + 1) ++ [r.type, r.status.code] ++ r.payload
  body ++ [checkByte body]

/-- The levels of an uplink reply on UTXD, its characters sent without a gap (R196, R201). -/
def UplinkReply.levels (r : UplinkReply) : List Bool := r.frame.flatMap fun b => lineLevels (soundCharacter b)

/-- The level of UTXD, true for the stop level, at a bit time counted from the start of the reply at the head
of the reply buffer (R196, R201). The line idles at the stop level: with no reply to send, after a reply's last
character, while RST is asserted, which stops a reply at once (R206), and once the RESTART reply has been sent
(R205). -/
def State.utxd (s : State) (i : Nat) : Bool :=
  if s.rstAsserted || s.warmResetDue then true
  else
    match s.uplink.replies with
    | r :: _ => r.levels.getD i true
    | [] => true

/-- The uplink's bit rate in bit/s, by the straps sampled at the last reset (R2, R196). -/
def UplinkPort.bitRate (u : UplinkPort) : Nat :=
  match u.straps.brs1, u.straps.brs0 with
  | false, false => 115200
  | false, true => 230400
  | true, false => 460800
  | true, true => 921600

end Sys2Proof.Machine
end

