-- ==== Sys2Proof/Machine/Operands.lean ====
section
/-! DEFINITION. The operand forms of the requests: which request an uplink frame is (R200, R207), the
contents of every payload (R207, R208), and the layouts of the replies' payloads (R204, R208 to
R210). -/

namespace Sys2Proof.Machine

/-! ### Which request a frame is -/

/-- The uplink requests of the catalogue, and the frames that are none of them (R200, R207). -/
inductive UplinkKind where
  | loadTicket
  | dropTicket
  | clearTable
  | queryTicket
  | setClass
  | setZone
  | setClock
  | readClock
  | noteAdmit
  | noteExit
  | revoke
  | takeJournal
  | setWatermark
  | openGate
  | closeGate
  | setIdentity
  | setLinkTimeout
  | setLane
  | readTallies
  | status
  | restart
  /-- An unknown type, a wrong payload length or a bad presence byte (R200). -/
  | unknown
deriving DecidableEq, Repr

/-- The request of a type code, with its exact payload length (R207). -/
def catalogue (type : Byte) : Option (UplinkKind × Nat) :=
  match type.toNat with
  | 0x10 => some (.loadTicket, 30)
  | 0x11 => some (.dropTicket, 8)
  | 0x12 => some (.clearTable, 0)
  | 0x13 => some (.queryTicket, 8)
  | 0x20 => some (.setClass, 15)
  | 0x21 => some (.setZone, 6)
  | 0x22 => some (.setClock, 4)
  | 0x23 => some (.readClock, 0)
  | 0x30 => some (.noteAdmit, 14)
  | 0x31 => some (.noteExit, 14)
  | 0x32 => some (.revoke, 8)
  | 0x40 => some (.takeJournal, 1)
  | 0x41 => some (.setWatermark, 2)
  | 0x50 => some (.openGate, 0)
  | 0x51 => some (.closeGate, 0)
  | 0x52 => some (.setIdentity, 2)
  | 0x53 => some (.setLinkTimeout, 1)
  | 0x60 => some (.setLane, 6)
  | 0x61 => some (.readTallies, 1)
  | 0x70 => some (.status, 0)
  | 0x71 => some (.restart, 0)
  | _ => none

/-- The request's presence byte sets a bit that marks no optional field: bits 2 to 7 in SET_ZONE, bits 4
to 7 in SET_LANE and in byte 11 of the LOAD_TICKET record block (R207). -/
def badPresence (k : UplinkKind) (p : List Byte) : Bool :=
  match k with
  | .setZone => decide (4 ≤ (byteAt p 1).toNat)
  | .setLane => decide (16 ≤ (byteAt p 1).toNat)
  | .loadTicket => decide (16 ≤ (byteAt p 11).toNat)
  | _ => false

/-- Which request a frame in the slot is (R200). -/
def UplinkRequest.kind (r : UplinkRequest) : UplinkKind :=
  match catalogue r.type with
  | some (k, n) => if r.payload.length = n ∧ badPresence k r.payload = false then k else .unknown
  | none => .unknown

/-! ### Numbers in range -/

/-- A byte as a lane number, refused above 5. -/
def laneOf? (b : Byte) : Option Lane := if h : b.toNat < 6 then some ⟨b.toNat, h⟩ else none

/-- A byte as a class number, refused above 31. -/
def classOf? (b : Byte) : Option ClassNo := if h : b.toNat < 32 then some ⟨b.toNat, h⟩ else none

/-- A byte as a number 0..15: a zone, an entry limit or an entries used. -/
def upTo15? (b : Byte) : Option (Fin 16) := if h : b.toNat < 16 then some ⟨b.toNat, h⟩ else none

/-- A byte as a set gate id 1..63, refused at 0 and above 63 (R137, R176). -/
def gateIdOf? (b : Byte) : Option GateId :=
  if h : 0 < b.toNat ∧ b.toNat < 64 then some ⟨b.toNat, h.2⟩ else none

/-- A byte as a flag: 0x00 no, 0x01 yes, any other refused (R207). -/
def flagOf? (b : Byte) : Option Bool :=
  if b = 0x00 then some false else if b = 0x01 then some true else none

/-- A role code (R207). -/
def roleOf? (b : Byte) : Option Role :=
  match b.toNat with
  | 0 => some .off
  | 1 => some .entry
  | 2 => some .exit
  | 3 => some .freeExit
  | 4 => some .dual
  | _ => none

/-- The code of a role (R207). -/
def Role.code : Role → Byte
  | .off => 0x00
  | .entry => 0x01
  | .exit => 0x02
  | .freeExit => 0x03
  | .dual => 0x04

/-- A time field: four bytes of seconds and one of fraction (R207). -/
def timeAt (p : List Byte) (i : Nat) : VenueTime := ⟨field32 p i, byteAt p (i + 4)⟩

/-- A time field as sent. -/
def timeBytes (t : VenueTime) : List Byte := bytes32 t.seconds ++ [t.fraction]

/-! ### The ticket record block (R208) -/

/-- A loadable state by its code; HELD and codes that name no state are refused (R32). -/
def loadableState? (b : Byte) : Option RecordState :=
  match b.toNat with
  | 1 => some .valid
  | 3 => some .inside
  | 4 => some .outside
  | 5 => some .spent
  | 6 => some .revoked
  | _ => none

/-- Entries used are consistent with a loadable state: VALID needs 0; INSIDE, OUTSIDE and SPENT need
1..15; REVOKED accepts 0..15 (R32). -/
def entriesConsistent (st : RecordState) (e : Fin 16) : Bool :=
  match st with
  | .valid => e.val == 0
  | .inside => e.val != 0
  | .outside => e.val != 0
  | .spent => e.val != 0
  | .revoked => true
  | .held _ => false

/-- A last passage's source: kind 0x00 and a lane 0..5, or kind 0x01 and a gate id 1..63 (R208). -/
def sourceOf? (kind number : Byte) : Option Source :=
  if kind = 0x00 then (laneOf? number).map .lane
  else if kind = 0x01 then (gateIdOf? number).map .gate
  else none

/-- The last passage a record block carries, behind bit 0 of byte 11; refused when its source is
faulty (R32, R208). -/
def passageOf? (p : List Byte) : Option (Option Passage) :=
  if bitAt (byteAt p 11) 0 then
    (sourceOf? (byteAt p 17) (byteAt p 18)).map fun src => some ⟨timeAt p 12, src⟩
  else some none

/-- The card binding a record block carries, behind bit 1 of byte 11; refused when its UID length is not
4, 7 or 10 (R32, R208). -/
def bindingOf? (p : List Byte) : Option (Option Uid) :=
  if bitAt (byteAt p 11) 1 then
    let n := (byteAt p 19).toNat
    if n = 4 ∨ n = 7 ∨ n = 10 then some (some (bytesAt p 20 n)) else none
  else some none

/-- The record that a LOAD_TICKET block carries for a ticket, refused when a record test of R32 fails.
It has no pending report and no hold. -/
def recordOf? (t : Ticket) (p : List Byte) : Option Record :=
  match classOf? (byteAt p 8), loadableState? (byteAt p 9), upTo15? (byteAt p 10), passageOf? p,
      bindingOf? p with
  | some c, some st, some e, some lp, some b =>
    if entriesConsistent st e ∧ ¬(st = .valid ∧ lp ≠ none) then
      some
        { ticket := t, cls := c, state := st, entries := e, lastPassage := lp, binding := b,
          pendingReport := false }
    else none
  | _, _, _, _, _ => none

/-- The two bytes of a source: kind and number (R208, R209). -/
def Source.bytes : Source → List Byte
  | .lane n => [0x00, byteOf n.val]
  | .gate g => [0x01, byteOf g.val]

/-- The seven bytes of a last passage, 0x00 when absent (R208). -/
def passageBytes : Option Passage → List Byte
  | some lp => timeBytes lp.time ++ lp.source.bytes
  | none => List.replicate 7 0

/-- The eleven bytes of a UID: its length, its bytes, then 0x00; all 0x00 when absent (R208). -/
def uidBytes : Option Uid → List Byte
  | some u => byteOf u.length :: (u ++ List.replicate (10 - u.length) 0)
  | none => List.replicate 11 0

/-- The presence byte of a record block in a reply (R208). -/
def Record.presence (r : Record) : Byte :=
  byteOf (bitValue r.lastPassage.isSome + 2 * bitValue r.binding.isSome
    + 4 * bitValue r.pendingReport + 8 * bitValue r.isHeld)

/-- The 30-byte record block of a record (R208). -/
def Record.block (r : Record) : List Byte :=
  ticketBytes r.ticket
    ++ [byteOf r.cls.val, r.state.name.code, byteOf r.entries.val, r.presence]
    ++ passageBytes r.lastPassage ++ uidBytes r.binding

/-- The hold lane, direction and grant time of a QUERY_TICKET reply, 0x00 when not HELD (R208). -/
def holdBytes : Option Hold → List Byte
  | some h => [byteOf h.lane.val, h.direction.code] ++ timeBytes h.grantTime
  | none => List.replicate 7 0

/-- The payload of a QUERY_TICKET reply, 39 bytes (R208). -/
def queryPayload (slot : Nat) (r : Record) : List Byte :=
  bytes16 slot ++ r.block ++ holdBytes r.hold?

/-! ### Classes and zones -/

/-- The class record that a SET_CLASS payload carries, the cooldown clamped; refused as R43 gives. -/
def classRecordOf? (p : List Byte) : Option (ClassNo × ClassRecord) :=
  match classOf? (byteAt p 0), upTo15? (byteAt p 9), upTo15? (byteAt p 12) with
  | some c, some limit, some zone =>
    let mask := byteAt p 13
    let flags := byteAt p 14
    if mask.toNat < 64 ∧ flags.toNat < 16 then
      some (c,
        { windowOpen := field32 p 1, windowClose := field32 p 5, windowless := bitAt flags 0,
          limit := limit, cooldown := min (field16 p 10).toNat Config.maxCooldown, zone := zone,
          laneMask := mask.setWidth 6, cardOnly := bitAt flags 1, bind := bitAt flags 2,
          offlineOk := bitAt flags 3 })
    else none
  | _, _, _ => none

/-- A class record laid out as the SET_CLASS payload (R207, R210). -/
def classPayload (c : ClassNo) (r : ClassRecord) : List Byte :=
  byteOf c.val :: bytes32 r.windowOpen ++ bytes32 r.windowClose ++ [byteOf r.limit.val]
    ++ bytes16 r.cooldown
    ++ [byteOf r.zone.val, byteOf r.laneMask.toNat,
        byteOf (bitValue r.windowless + 2 * bitValue r.cardOnly + 4 * bitValue r.bind
          + 8 * bitValue r.offlineOk)]

/-- The payload of a SET_ZONE reply (R210). -/
def zonePayload (z : ZoneNo) (r : ZoneRecord) : List Byte :=
  byteOf z.val :: bytes16 r.capacity.toNat ++ bytes16 r.occupancy.toNat ++ [byteOf r.reserved]

/-- The payload of a SET_CLOCK or READ_CLOCK reply (R210). -/
def clockPayload (c : Clock) : List Byte := timeBytes c.time ++ [byteOfBool c.valid]

/-! ### Notices -/

/-- The fields a notice carries after its tests of form (R137): ticket number, gate id and time. -/
structure Notice where
  ticket : Ticket
  gate : GateId
  time : VenueTime
deriving DecidableEq, Repr

/-- The notice in a payload, refused when a nibble of the ticket number is above 9 or the gate id is 0 or
above 63 (R137). -/
def noticeOf? (p : List Byte) : Option Notice :=
  match ticketOfBytes? (bytesAt p 0 8), gateIdOf? (byteAt p 8) with
  | some t, some g => some ⟨t, g, timeAt p 9⟩
  | _, _ => none

/-- The payload of a NOTE_ADMIT, NOTE_EXIT or REVOKE reply when a record was found; the last three bytes
are 0x00 when the record is not HELD (R139, R210). -/
def noticePayload (slot : Nat) (r : Record) (withdrawSent : Bool) : List Byte :=
  bytes16 slot ++ [r.state.name.code, byteOf r.entries.val]
    ++ match r.hold? with
      | some h => [byteOf h.lane.val, h.direction.code, byteOfBool withdrawSent]
      | none => [0x00, 0x00, 0x00]

/-! ### The journal -/

/-- The codes of the kinds of journal entry (R209). -/
def Kind.code : Kind → Byte
  | .admission => 0x01
  | .exit => 0x02
  | .double => 0x03
  | .conflict => 0x04
  | .snapshot => 0x05
  | .forced => 0x06
  | .evacBegin => 0x07
  | .evacEnd => 0x08
  | .linkLost => 0x09
  | .linkBack => 0x0A

/-- The twelve bytes of an entry's record fields, 0x00 in a record-less entry (R209). -/
def recordFieldsBytes : Option RecordFields → List Byte
  | some f =>
    ticketBytes f.ticket
      ++ [byteOf f.cls.val, byteOf f.zone.val, f.stateAfter.code, byteOf f.entries.val]
  | none => List.replicate 12 0

/-- The 22 bytes of an entry in a TAKE_JOURNAL reply (R209). -/
def Entry.bytes (e : Entry) : List Byte :=
  bytes16 e.sequence.toNat ++ [e.kind.code] ++ e.source.bytes ++ timeBytes e.time
    ++ recordFieldsBytes e.fields

/-- The payload of a TAKE_JOURNAL reply: k, the depth remaining, the k entries (R209). -/
def journalPayload (taken : List Entry) (remaining : Nat) : List Byte :=
  byteOf taken.length :: bytes16 remaining ++ taken.flatMap Entry.bytes

/-! ### Lanes, tallies, identity, STATUS -/

/-- What a SET_LANE payload carries, each field but the lane optional (R131). -/
structure LaneChange where
  lane : Lane
  role : Option Role
  window : Option Nat
  threshold : Option Nat
  reversed : Option Bool
deriving DecidableEq, Repr

/-- An optional field behind a presence bit: absent when the bit is clear, refused when the bit is set
and its content is. -/
def optionalField {α : Type} (present : Bool) (content : Option α) : Option (Option α) :=
  if present then content.map some else some none

/-- A value clamped to a range: one outside it is replaced by the nearest end (R1). -/
def clamp (low high n : Nat) : Nat := max low (min high n)

/-- The SET_LANE change in a payload, its window and threshold clamped; refused when the lane is above
5, the role names no role or REVERSED is neither set nor clear (R131). -/
def laneChangeOf? (p : List Byte) : Option LaneChange :=
  let present := byteAt p 1
  match laneOf? (byteAt p 0), optionalField (bitAt present 0) (roleOf? (byteAt p 2)),
      optionalField (bitAt present 3) (flagOf? (byteAt p 5)) with
  | some n, some role, some reversed =>
    some
      { lane := n
        role := role
        window :=
          if bitAt present 1 then
            some (clamp Config.minWindow Config.maxWindow (byteAt p 3).toNat)
          else none
        threshold :=
          if bitAt present 2 then
            some (clamp Config.minThreshold Config.maxThreshold (byteAt p 4).toNat)
          else none
        reversed := reversed }
  | _, _, _ => none

/-- The three bytes of settings in a SET_LANE reply (R210). -/
def Settings.bytes (c : Settings) : List Byte :=
  [byteOf c.window, byteOf c.threshold, byteOfBool c.reversed]

/-- The payload of a SET_LANE reply (R210). -/
def lanePayload (n : Lane) (lu : LaneUnit) : List Byte :=
  [byteOf n.val, lu.role.code, lu.state.code] ++ lu.live.bytes ++ lu.preload.bytes

/-- The 24 bytes of a lane's tallies, in the order of R134. -/
def Tallies.bytes (t : Tallies) : List Byte :=
  bytes32 t.admits ++ bytes32 t.exits ++ bytes32 t.free ++ bytes32 t.forced ++ bytes32 t.refusals
    ++ bytes32 t.phase

/-- The payload of a READ_TALLIES reply: all 36 tallies, lane 0 first (R134). -/
def talliesPayload (lanes : Vector LaneUnit 6) : List Byte :=
  lanesAscending.flatMap fun n => (lanes.get n).tallies.bytes

/-- The payload of a SET_IDENTITY reply (R210). -/
def identityPayload (g : GateId) (e : EventCode) : List Byte := [byteOf g.val, eventCodeByte e]

/-- The codes of the reset cause (R204). -/
def ResetCause.code : ResetCause → Byte
  | .power => 0x01
  | .warm => 0x02

/-- The payload of a STATUS reply (R204). -/
def statusPayload (s : State) : List Byte :=
  [s.gc.resetCause.code, s.gc.gate.code, s.gc.link.code, byteOfBool s.gc.accepted,
    byteOfBool s.clock.valid, byteOf s.gc.gateId.val, eventCodeByte s.gc.eventCode]
    ++ bytes16 s.table.length ++ bytes16 s.pendingCount ++ bytes16 s.journal.length
    ++ bytes16 s.nextSeq.toNat

/-! ### Serving -/

/-- An uplink request of one kind is served: its answer is placed, if it is the request in service. -/
def State.serveUplink (s : State) (k : UplinkKind) (serve : State → List Byte → State × Answer) :
    State :=
  match s.uplinkRequestInService with
  | some r =>
    if r.kind = k then
      let a := serve s r.payload
      a.1.finishUplink r a.2
    else s
  | none => s

end Sys2Proof.Machine
end

