-- ==== Sys2Proof/Machine/Normalizer.lean ====
section
/-! DEFINITION. The Credential Normalizer: the two credential forms, the event code and the check digit
(spec/01_ticket_numbers_and_credential_forms.md, R3 to R13). -/

namespace Sys2Proof.Machine

/-- A credential's form (R4). -/
inductive Form where
  | code
  | card
deriving DecidableEq, Repr

/-- The outcomes of normalization (R10). -/
inductive CredentialOutcome where
  | malformed
  | wrongEvent
  | badCheck
  | wellFormed
deriving DecidableEq, Repr

/-- The normalized credential and its outcome (R4, R10). -/
structure Credential where
  form : Form
  side : Side
  outcome : CredentialOutcome
  eventCode : Option EventCode
  ticket : Option Ticket
  uid : Option Uid
deriving DecidableEq, Repr

/-- A MALFORMED credential: only form and side (R7, R10). -/
def Credential.malformed (form : Form) (side : Side) : Credential :=
  { form := form, side := side, outcome := .malformed, eventCode := none, ticket := none, uid := none }

/-- The outcome once the form has passed: the event code is compared with the cluster's (R11), then the
check digit is tested (R13). -/
def outcomeOf (cluster code : EventCode) (t : Ticket) : CredentialOutcome :=
  if cluster = .unset ∨ code ≠ cluster then .wrongEvent
  else if ticketWellFormed t then .wellFormed
  else .badCheck

/-- The credential of eighteen digits, the event code's two and the ticket number's sixteen (R6, R9);
MALFORMED when there are not eighteen. -/
def credentialOfDigits (form : Form) (side : Side) (uid : Option Uid) (cluster : EventCode)
    (digits : List Digit) : Credential :=
  match digits with
  | tens :: units :: rest =>
    match ticketOfDigits? rest with
    | some t =>
      { form := form, side := side, outcome := outcomeOf cluster ⟨tens, units⟩ t,
        eventCode := some ⟨tens, units⟩, ticket := some t, uid := uid }
    | none => .malformed form side
  | _ => .malformed form side

/-- A barcode character as a number, so that 0x30..0x39 alone give a digit (R6). -/
def characterValue (b : Byte) : Nat := if b.toNat < 0x30 then 10 else b.toNat - 0x30

/-- Normalize a barcode text (R6, R7). -/
def normalizeCode (cluster : EventCode) (side : Side) (text : List Byte) : Credential :=
  match digits? (text.map characterValue) with
  | some ds => credentialOfDigits .code side none cluster ds
  | none => .malformed .code side

/-- Normalize a card's UID and payload: the UID length first, then the nine bytes of decimal nibbles
(R8, R9). -/
def normalizeCard (cluster : EventCode) (side : Side) (uid : Uid) (payload : List Byte) :
    Credential :=
  if uid.length = 4 ∨ uid.length = 7 ∨ uid.length = 10 then
    match digits? (nibbles payload) with
    | some ds => credentialOfDigits .card side (some uid) cluster ds
    | none => .malformed .card side
  else .malformed .card side

end Sys2Proof.Machine
end

