-- ==== Sys2Proof/Machine/Decision.lean ====
section
/-! DEFINITION. The admission decision: the seventeen checks, the grant, the verdict reply, CANCEL and
POLL (spec/04_the_admission_decision.md, R73 to R89, with the tests of R55 to R58). -/

namespace Sys2Proof.Machine

/-! ### The checks (R73) -/

/-- Check 1: the gate state (R74). -/
def checkGate (s : State) : Option Verdict :=
  match s.gc.gate with
  | .evac => some .emergency
  | .closed => some .gateClosed
  | .opened => none

/-- Check 2: the lane's live role (R74). -/
def checkRole (role : Role) : Option Verdict :=
  match role with
  | .off => some .laneClosed
  | _ => none

/-- Check 3: the side against the role (R74). -/
def checkSide (role : Role) (side : Side) : Option Verdict :=
  match role, side with
  | .entry, .OUT => some .wrongSide
  | .exit, .IN => some .wrongSide
  | .freeExit, .IN => some .wrongSide
  | _, _ => none

/-- Checks 4 to 6: the Credential Normalizer's outcome (R75). -/
def checkCredential (c : Credential) : Option Verdict :=
  match c.outcome with
  | .malformed => some .malformed
  | .wrongEvent => some .wrongEvent
  | .badCheck => some .badCheck
  | .wellFormed => none

/-- Checks 1 to 6, in order. -/
def checksOfLane (s : State) (n : Lane) (c : Credential) : Option Verdict :=
  let role := (s.lanes.get n).role
  [checkGate s, checkRole role, checkSide role c.side, checkCredential c].findSome? id

/-- Check 9: the record's state, by side (R77). -/
def checkState (r : Record) (side : Side) : Option Verdict :=
  match r.state, side with
  | .valid, .IN => none
  | .valid, .OUT => some .notInside
  | .held _, _ => some .heldElsewhere
  | .inside, .IN => some .alreadyInside
  | .inside, .OUT => none
  | .outside, .IN => none
  | .outside, .OUT => some .notInside
  | .spent, .IN => some .spent
  | .spent, .OUT => some .notInside
  | .revoked, _ => some .revoked

/-- Check 10: the class entry limit is not 0 (R78). -/
def checkBarred (c : ClassRecord) : Option Verdict :=
  if c.limit.val = 0 then some .classBarred else none

/-- Check 11: the lane's mark in the class lane mask (R78). -/
def checkLaneMask (c : ClassRecord) (n : Lane) : Option Verdict :=
  if c.laneMask.getLsbD n.val then none else some .wrongLane

/-- Case 1 of check 12: a barcode for a CARD_ONLY class or a bound record (R79). -/
def checkCardRequired (c : ClassRecord) (r : Record) (form : Form) : Option Verdict :=
  match form with
  | .code => if c.cardOnly ∨ r.binding ≠ none then some .cardRequired else none
  | .card => none

/-- Case 2 of check 12: a card whose UID is not equal to the binding (R79, R8). -/
def checkCardMatch (r : Record) (cred : Credential) : Option Verdict :=
  match cred.form with
  | .code => none
  | .card => if r.binding ≠ none ∧ r.binding ≠ cred.uid then some .cardMismatch else none

/-- Check 13: the link (R80). -/
def checkLink (s : State) (c : ClassRecord) : Option Verdict :=
  if s.gc.link = .offline ∧ c.offlineOk = false then some .offlineBarred else none

/-- Check 14: the entry window (R56). -/
def checkWindow (clock : Clock) (c : ClassRecord) : Option Verdict :=
  if c.windowless then none
  else if clock.valid = false then some .noTime
  else if clock.time.seconds.toNat < c.windowOpen.toNat then some .tooEarly
  else if c.windowClose.toNat ≤ clock.time.seconds.toNat then some .tooLate
  else none

/-- Check 15: entries used below the limit (R55). -/
def checkEntries (c : ClassRecord) (r : Record) : Option Verdict :=
  if r.entries < c.limit then none else some .spent

/-- The elapsed seconds of the cooldown test (R57). -/
def elapsedSince (clock : Clock) (lp : Passage) : Nat :=
  if clock.valid then clock.time.seconds.toNat - lp.time.seconds.toNat else 0

/-- Check 16: the cooldown, from OUTSIDE only (R57). -/
def checkCooldown (clock : Clock) (c : ClassRecord) (r : Record) : Option Verdict :=
  match r.state, r.lastPassage with
  | .outside, some lp => if c.cooldown ≤ elapsedSince clock lp then none else some .cooldown
  | _, _ => none

/-- Check 17: zone headroom (R58). -/
def checkHeadroom (z : ZoneRecord) : Option Verdict :=
  if z.occupancy.toNat + z.reserved < z.capacity.toNat then none else some .zoneFull

/-- Checks 9 to 17 of a found record, in order; an exit skips those marked "entry" (R73, R79). -/
def checksOfRecord (s : State) (n : Lane) (cred : Credential) (r : Record) : Option Verdict :=
  let c := s.classOf r
  let common := [checkState r cred.side, checkBarred c, checkLaneMask c n]
  match cred.side with
  | .OUT => (common ++ [checkCardMatch r cred]).findSome? id
  | .IN =>
    (common ++
      [checkCardRequired c r cred.form, checkCardMatch r cred, checkLink s c,
        checkWindow s.clock c, checkEntries c r, checkCooldown s.clock c r,
        checkHeadroom (s.zones.get c.zone)]).findSome? id

/-- How a presentation is decided. -/
inductive Decision where
  /-- A refusal for which no record was found. -/
  | refuse (v : Verdict)
  /-- A refusal at checks 9 to 17, with the record found. -/
  | refuseRecord (v : Verdict) (r : Record)
  /-- A repeat at the holding lane (R76). -/
  | repeatGrant (r : Record) (h : Hold)
  /-- A grant of the record in a slot (R82). -/
  | grant (slot : Nat) (r : Record)
deriving DecidableEq, Repr

/-- The check order of a presentation at a lane (R73): checks 1 to 6, the lane's own hold (R76), the
lookup (R77), then the record's checks. -/
def State.decision (s : State) (n : Lane) (c : Credential) : Decision :=
  match checksOfLane s n c, c.ticket with
  | some v, _ => .refuse v
  | none, none => .refuse .malformed
  | none, some t =>
    match (s.contexts.get n).holdRef with
    | some ref =>
      match s.heldAt n with
      | some (_, r, h) =>
        if t = ref.ticket ∧ c.side = h.direction then .repeatGrant r h else .refuse .laneOccupied
      | none => .refuse .laneOccupied
    | none =>
      match s.table.lookup t with
      | none => .refuse .unknown
      | some (slot, r) =>
        match checksOfRecord s n c r with
        | some v => .refuseRecord v r
        | none => .grant slot r

/-! ### The grant and the reply -/

/-- The hold that a grant writes (R26, R82). -/
def State.newHold (s : State) (n : Lane) (cred : Credential) (r : Record) : Hold :=
  { lane := n, direction := cred.side,
    prior :=
      match r.state with
      | .outside => .outside
      | .inside => .inside
      | _ => .valid
    reservedZone :=
      match cred.side with
      | .IN => some (s.zoneOf r)
      | .OUT => none
    uid := cred.uid, grantTime := s.clock.time, remoteMark := none, revokeMark := false }

/-- The changes of a grant: the record, the lane context, the reserved place and the arm command sent
(R82). -/
def State.grantHold (s : State) (n : Lane) (cred : Credential) (slot : Nat) (r : Record) : State :=
  let h := s.newHold n cred r
  let s := (s.setRecord slot { r with state := .held h }).modifyReservedZone h ZoneRecord.reserve
  { s.setContext n { s.contexts.get n with holdRef := some ⟨r.ticket, slot⟩ } with
    commands := s.commands ++ [.arm n cred.side] }

/-- Entries remaining in a GRANT reply (R85). -/
def entriesRemaining (limit entries : Fin 16) (direction : Side) : Nat :=
  match direction with
  | .IN => limit.val - entries.val - 1
  | .OUT => limit.val - entries.val

/-- The lane status block, from the state as the service left it; the overrun marker is written when the
reply is placed (R86, R191). -/
def State.statusBlock (s : State) (n : Lane) : StatusBlock :=
  let c := s.contexts.get n
  { laneState := (s.lanes.get n).state
    hold := (s.heldAt n).map fun x => (x.2.2.direction, x.2.1.ticket)
    lastOutcome := c.lastOutcome
    forcedSincePoll := c.forcedSincePoll
    gate := s.gc.gate
    link := s.gc.link
    overrun := false }

/-- The zone that a GRANT reply names: the reserved zone of an entry hold, else the class's (R84). -/
def State.replyZone (s : State) (r : Record) (h : Hold) : ZoneNo :=
  h.reservedZone.getD (s.zoneOf r)

/-- A GRANT reply, new or repeat, for the record and hold of the lane (R84, R85). -/
def State.grantReply (s : State) (n : Lane) (cred : Credential) (isRepeat : Bool) (r : Record)
    (h : Hold) : VerdictReply :=
  { verdict := .grant, repeatMarker := isRepeat, ticket := cred.ticket,
    classZone := some (r.cls, s.replyZone r h),
    figures :=
      some (entriesRemaining (s.classOf r).limit r.entries h.direction,
        (s.lanes.get n).live.window)
    block := s.statusBlock n }

/-- A refusal's reply, naming class and zone when a record was found (R84). -/
def State.refusalReply (s : State) (n : Lane) (cred : Credential) (v : Verdict)
    (found : Option Record) : VerdictReply :=
  { verdict := v, repeatMarker := false, ticket := cred.ticket,
    classZone := found.map fun r => (r.cls, s.zoneOf r)
    figures := none, block := s.statusBlock n }

/-- The presenting lane's REFUSALS tally rises by 1 (R83). -/
def State.countRefusal (s : State) (n : Lane) : State :=
  s.setLane n (s.lanes.get n).countRefusal

/-- A presentation's service: the decision, its changes and its reply (R73, R82 to R84). -/
def State.present (s : State) (n : Lane) (cred : Credential) : State × VerdictReply :=
  match s.decision n cred with
  | .refuse v => (s.countRefusal n, (s.countRefusal n).refusalReply n cred v none)
  | .refuseRecord v r => (s.countRefusal n, (s.countRefusal n).refusalReply n cred v (some r))
  | .repeatGrant r h => (s, s.grantReply n cred true r h)
  | .grant slot r =>
    let t := s.grantHold n cred slot r
    (t, t.grantReply n cred false r (s.newHold n cred r))

/-- A presentation taken, its reply placed and its slot emptied (R188). -/
def State.servePresentation (s : State) (n : Lane) (cred : Credential) : State :=
  let p := s.present n cred
  p.1.finishLaneRequest n (.verdict p.2)

/-- PRESENT_CODE: the DE serves a barcode presentation (R3, R73). -/
def execPresentCode (s : State) : Host.Outcome State Fault Refusal :=
  match s.laneRequestInService with
  | some (n, .code side text) =>
    .next (s.servePresentation n (normalizeCode s.gc.eventCode side text))
  | _ => .next s

/-- PRESENT_CARD: the DE serves a card presentation (R3, R73). -/
def execPresentCard (s : State) : Host.Outcome State Fault Refusal :=
  match s.laneRequestInService with
  | some (n, .card side uid payload) =>
    .next (s.servePresentation n (normalizeCard s.gc.eventCode side uid payload))
  | _ => .next s

/-! ### CANCEL and POLL -/

/-- CANCEL's service: at an ARMED lane with a hold the lane relocks and the hold ends CANCELLED, answered
true for DONE; otherwise nothing changes (R88, R104). -/
def State.cancelHold (s : State) (n : Lane) : State × Bool :=
  match s.heldAt n, (s.lanes.get n).state with
  | some (slot, r, h), .armed =>
    let relocked := s.setLane n (s.lanes.get n).relock
    ((relocked.endNonCommit slot r h s.clock.time).closeHold n .cancelled r.ticket, true)
  | _, _ => (s, false)

/-- CANCEL: the DE serves a lane's CANCEL (R88). -/
def execCancel (s : State) : Host.Outcome State Fault Refusal :=
  match s.laneRequestInService with
  | some (n, .cancel) =>
    let c := s.cancelHold n
    .next (c.1.finishLaneRequest n (.cancel c.2 (c.1.statusBlock n)))
  | _ => .next s

/-- What a POLL clears once its reply is built: the last hold outcome and the forced count (R87). -/
def State.clearPolled (s : State) (n : Lane) : State :=
  s.setContext n { s.contexts.get n with lastOutcome := none, forcedSincePoll := 0 }

/-- POLL: the DE replies with the lane status block as it stood and clears what it reports (R87). -/
def execPoll (s : State) : Host.Outcome State Fault Refusal :=
  match s.laneRequestInService with
  | some (n, .poll) => .next ((s.clearPolled n).finishLaneRequest n (.poll (s.statusBlock n)))
  | _ => .next s

end Sys2Proof.Machine
end

