-- ==== Sys2Proof/Machine/LaneUnits.lean ====
section
/-! DEFINITION. The lane units: encoder events, the arm timer, the arm and withdraw commands, SET_LANE and
READ_TALLIES (spec/06_lane_units.md, R113 to R134; spec/05_holds.md, R92, R93, R107). -/

namespace Sys2Proof.Machine

/-! ### Encoder events -/

/-- The place of a pair in the encoder cycle (0,0), (0,1), (1,1), (1,0) (R113). -/
def cyclePlace (p : EncoderPair) : Nat :=
  match p.a, p.b with
  | false, false => 0
  | false, true => 1
  | true, true => 2
  | true, false => 3

/-- The step from one pair to another: along the cycle is +1 (IN), against it −1 (OUT); a change of both
inputs at once is a phase error and gives none (R113). -/
def decodeStep (reference new : EncoderPair) : Option Side :=
  if cyclePlace new = (cyclePlace reference + 1) % 4 then some .IN
  else if cyclePlace new = (cyclePlace reference + 3) % 4 then some .OUT
  else none

/-- A passage event sets the counted flag; a forced passage adds to FORCED and to the forced report
count, which saturates at 255 (R123). -/
def LaneUnit.forcedPassage (lu : LaneUnit) : LaneUnit :=
  { lu with
    counted := true
    forcedReports := min (lu.forcedReports + 1) Config.forcedLimit
    tallies := { lu.tallies with forced := lu.tallies.forced + 1 } }

/-- A free passage adds to FREE and sets the counted flag (R124). -/
def LaneUnit.freePassage (lu : LaneUnit) : LaneUnit :=
  { lu with counted := true, tallies := { lu.tallies with free := lu.tallies.free + 1 } }

/-- A commit in direction `d`, with its capture (R122). -/
def LaneUnit.commitPassage (lu : LaneUnit) (d : Side) (now : VenueTime) : LaneUnit :=
  LaneUnit.goTo
    (LaneUnit.raise
      { lu with
        armTimer := none
        overdue := false
        counted := true
        tallies :=
          match d with
          | .IN => { lu.tallies with admits := lu.tallies.admits + 1 }
          | .OUT => { lu.tallies with exits := lu.tallies.exits + 1 } }
      (.commit now))
    .locked

/-- The accumulator after a step: a count of +96 or −96 is a new rest, 0 (R115). -/
def accumulate (a : Int) (e : Side) : Int :=
  let b := a + e.sign
  if b = Config.countsPerArm ∨ b = -Config.countsPerArm then 0 else b

/-- A step's accumulator and counted flag, which is cleared whenever A becomes 0 (R115, R116). -/
def LaneUnit.move (lu : LaneUnit) (e : Side) : LaneUnit :=
  let a := accumulate lu.accumulator e
  { lu with accumulator := a, counted := lu.counted && a != 0 }

/-- A step in direction `e` brings e·A to the live commit threshold with the counted flag clear (R115 to
R117). -/
def LaneUnit.reaches (lu : LaneUnit) (e : Side) : Bool :=
  !lu.counted && e.sign * (lu.accumulator + e.sign) == (lu.live.threshold : Int)

/-- A step at an ARMED lane with hold direction `d` (R119). -/
def LaneUnit.stepArmed (lu : LaneUnit) (d e : Side) (now : VenueTime) : LaneUnit :=
  let moved := lu.move e
  if e = d then
    if Config.startThreshold ≤ d.sign * moved.accumulator then
      if lu.reaches e then moved.commitPassage d now else moved.goTo .turning
    else moved
  else if lu.reaches e then moved.forcedPassage
  else moved

/-- A step at a TURNING lane with hold direction `d` (R120). DEDUCED (notes/assumptions/12.md): the expiry at d·A = 0
leaves the overdue mark set. -/
def LaneUnit.stepTurning (lu : LaneUnit) (d e : Side) (now : VenueTime) : LaneUnit :=
  let moved := lu.move e
  if e = d ∧ lu.reaches e = true then moved.commitPassage d now
  else if d.sign * moved.accumulator ≤ 0 then
    if lu.overdue then moved.relock.raise .expiry else moved.goTo .armed
  else moved

/-- A step acted on in the lane state it finds (R118 to R121). -/
def LaneUnit.step (lu : LaneUnit) (e : Side) (now : VenueTime) : LaneUnit :=
  let moved := lu.move e
  match lu.state, lu.hold with
  | .closed, _ => if lu.reaches e then moved.forcedPassage else moved
  | .locked, _ =>
    if lu.reaches e then
      if lu.role = .freeExit ∧ e = .OUT then moved.freePassage else moved.forcedPassage
    else moved
  | .armed, some d => lu.stepArmed d e now
  | .turning, some d => lu.stepTurning d e now
  | .free, _ => if lu.reaches e then moved.freePassage else moved
  | _, none => moved

/-- The step's direction once REVERSED has been applied (R113, R128). -/
def LaneUnit.applyReversed (lu : LaneUnit) (e : Side) : Side :=
  if lu.live.reversed then e.opposite else e

/-- A phase error: PHASE rises by 1, and nothing else changes but the reference pair (R114). -/
def LaneUnit.phaseError (lu : LaneUnit) : LaneUnit :=
  { lu with tallies := { lu.tallies with phase := lu.tallies.phase + 1 } }

/-- A new encoder pair taken at a lane unit: the new pair becomes the reference; a step that brings A to 0
may make the preload live (R113, R130). -/
def LaneUnit.takePair (lu : LaneUnit) (pair : EncoderPair) (recordNamed : Bool) (now : VenueTime) :
    LaneUnit :=
  match decodeStep lu.reference pair with
  | some e =>
    LaneUnit.settlePreload { lu.step (lu.applyReversed e) now with reference := pair } recordNamed
  | none => { lu.phaseError with reference := pair }

/-- ENCODER_EVENT: a lane's sampled pair. A pair equal to the reference is no event, and while RST is
asserted a lane unit takes none (R113, R136). -/
def execEncoderEvent (n : Lane) (pair : EncoderPair) (s : State) :
    Host.Outcome State Fault Refusal :=
  let lu := s.lanes.get n
  if s.rstAsserted ∨ pair = lu.reference then .next s
  else .next (s.setLane n (lu.takePair pair (s.contexts.get n).holdRef.isSome s.clock.time))

/-! ### The arm timer and the commands of the Decision Engine -/

/-- The lane's arm timer has reached 0 and its expiry has not been taken (R125). -/
def LaneUnit.expiryDue (lu : LaneUnit) : Bool := lu.armTimer == some 0

/-- A lane's expiry, if one is due (R125). -/
def State.settleExpiry (s : State) (n : Lane) : State :=
  if (s.lanes.get n).expiryDue then s.setLane n (s.lanes.get n).takeExpiry else s

/-- ARM_TIMER_EXPIRY at a lane (R125). -/
def execArmTimerExpiry (n : Lane) (s : State) : Host.Outcome State Fault Refusal :=
  if s.rstAsserted then .next s else .next (s.settleExpiry n)

/-- ARM_COMMAND: the oldest command in flight, an arm command, is taken at its lane unit (R91 to R93). -/
def execArmCommand (s : State) : Host.Outcome State Fault Refusal :=
  match s.rstAsserted, s.commands with
  | false, .arm n d :: rest => .next ({ s with commands := rest }.takeLaneCommand (.arm n d))
  | _, _ => .next s

/-- WITHDRAW_COMMAND: the oldest command in flight, a withdraw command, is taken at its lane unit (R91,
R107). -/
def execWithdrawCommand (s : State) : Host.Outcome State Fault Refusal :=
  match s.rstAsserted, s.commands with
  | false, .withdraw n :: rest => .next ({ s with commands := rest }.takeLaneCommand (.withdraw n))
  | _, _ => .next s

/-! ### The requests a lane unit owns -/

/-- A role written at once: a CLOSED or LOCKED lane takes the role's resting state and its lock outputs,
any other lane keeps its state (R132). -/
def LaneUnit.takeRole (lu : LaneUnit) (role : Role) : LaneUnit :=
  let lu := { lu with role := role }
  match lu.state with
  | .closed => lu.goTo role.restingState
  | .locked => lu.goTo role.restingState
  | _ => lu

/-- The preload fields carried are written; a field not carried keeps its value (R131). -/
def LaneUnit.writePreload (lu : LaneUnit) (c : LaneChange) : LaneUnit :=
  { lu with
    preload :=
      { window := c.window.getD lu.preload.window
        threshold := c.threshold.getD lu.preload.threshold
        reversed := c.reversed.getD lu.preload.reversed } }

/-- The role carried, where it differs from the live one (R131, R132). -/
def LaneUnit.changeRole (lu : LaneUnit) (role : Option Role) : LaneUnit :=
  match role with
  | some r => if r = lu.role then lu else lu.takeRole r
  | none => lu

/-- SET_LANE's service (R131, R132). -/
def setLaneService (s : State) (p : List Byte) : State × Answer :=
  match laneChangeOf? p with
  | none => (s, .refuse .badArg)
  | some c =>
    let lu := s.lanes.get c.lane
    let named := (s.contexts.get c.lane).holdRef.isSome
    if named ∧ c.role.getD lu.role ≠ lu.role then (s, .refuse .holdActive)
    else
      let lu := ((lu.changeRole c.role).writePreload c).settlePreload named
      (s.setLane c.lane lu, .ok (lanePayload c.lane lu))

/-- SET_LANE: the DE writes a lane's role live and its other settings to the preload (R131). -/
def execSetLane (s : State) : Host.Outcome State Fault Refusal :=
  .next (s.serveUplink .setLane setLaneService)

/-- READ_TALLIES' service (R134). -/
def readTalliesService (s : State) (p : List Byte) : State × Answer :=
  match flagOf? (byteAt p 0) with
  | none => (s, .refuse .badArg)
  | some clear =>
    (if clear then s.mapLanes fun lu => { lu with tallies := .zero } else s,
      .ok (talliesPayload s.lanes))

/-- READ_TALLIES: the DE returns all 36 lane tallies and optionally clears them (R134). -/
def execReadTallies (s : State) : Host.Outcome State Fault Refusal :=
  .next (s.serveUplink .readTallies readTalliesService)

end Sys2Proof.Machine
end

