-- ==== Sys2Proof/Machine/GateControl.lean ====
section
/-! DEFINITION. The Gate Controller: EVAC, gate state, identity, the link monitor, and the tick that
drives the time-driven parts (spec/09_gate_state_link_supervision_and_evacuation.md, R169 to R179; R51,
R125 and R172 for the tick). -/

namespace Sys2Proof.Machine

/-! ### EVAC -/

/-- A change of the accepted EVAC level to asserted is due (R172). -/
def State.evacAssertionDue (s : State) : Bool :=
  !s.rstAsserted && s.gc.evacDue && !s.gc.accepted

/-- A change of the accepted EVAC level to deasserted is due (R172). -/
def State.evacReleaseDue (s : State) : Bool :=
  !s.rstAsserted && s.gc.evacDue && s.gc.accepted

/-- The assertion of EVAC: gate EVAC, FREE at every lane unit, EVAC_BEGIN raised (R173). -/
def State.assertEvac (s : State) : State :=
  { s.mapLanes LaneUnit.takeFree with
    gc := GateController.raise { s.gc with gate := .evac, accepted := true, evacDue := false } .evacBegin }

/-- The release of EVAC: gate CLOSED, unFREE at every lane unit, EVAC_END raised (R174). -/
def State.releaseEvac (s : State) : State :=
  { s.mapLanes LaneUnit.takeUnfree with
    gc := GateController.raise { s.gc with gate := .closed, accepted := false, evacDue := false } .evacEnd }

/-- EVAC_ASSERTION (R173). -/
def execEvacAssertion (s : State) : Host.Outcome State Fault Refusal :=
  if s.evacAssertionDue then .next s.assertEvac else .next s

/-- EVAC_RELEASE (R174). -/
def execEvacRelease (s : State) : Host.Outcome State Fault Refusal :=
  if s.evacReleaseDue then .next s.releaseEvac else .next s

/-! ### The link monitor -/

/-- The monitor's timeout: the link goes OFFLINE, LINK_LOST is raised, the count stops (R178). -/
def GateController.loseLink (g : GateController) : GateController :=
  GateController.raise { g with link := .offline, timeoutDue := false } .linkLost

/-- The monitor's timeout, if one is due (R178). -/
def State.settleTimeout (s : State) : State :=
  if s.gc.timeoutDue then { s with gc := s.gc.loseLink } else s

/-- LINK_MONITOR_TIMEOUT (R178). -/
def execLinkMonitorTimeout (s : State) : Host.Outcome State Fault Refusal :=
  if s.rstAsserted then .next s else .next s.settleTimeout

/-- A well-formed frame's arrival at the link monitor: the count restarts, and an OFFLINE link becomes
ONLINE with LINK_BACK raised (R177). DESIGN CHOICE (notes/assumptions/2.md): a timeout due and not yet taken is
cleared, with no LINK_LOST. -/
def GateController.hearFrame (g : GateController) : GateController :=
  let heard := { g with monitorCount := 0, timeoutDue := false, link := .online }
  match g.link with
  | .offline => heard.raise .linkBack
  | .online => heard

/-- The monitor's tick: while ONLINE the count rises, and a count at or past the timeout is the monitor's
timeout (R178, R179). -/
def GateController.tickMonitor (g : GateController) : GateController :=
  match g.link with
  | .online =>
    { g with
      monitorCount := g.monitorCount + 1
      timeoutDue :=
        g.timeoutDue || decide (g.linkTimeout * Config.ticksPerSecond ≤ g.monitorCount + 1) }
  | .offline => g

/-- The EVAC filter's sample at a tick: two successive samples opposite to the accepted level make a
change due (R172). -/
def GateController.sampleEvac (g : GateController) (pin : Bool) : GateController :=
  { g with
    previousSample := pin
    evacDue := g.evacDue || (pin != g.accepted && g.previousSample != g.accepted) }

/-! ### The tick -/

/-- The Venue Clock's tick: the fraction rises, carrying into the seconds, and both wrap at the top
(R51). -/
def VenueTime.tick (t : VenueTime) : VenueTime :=
  if t.fraction = 255 then ⟨t.seconds + 1, 0⟩ else ⟨t.seconds, t.fraction + 1⟩

/-- The Venue Clock has counted one tick; its valid flag stays (R51). -/
def State.tickClock (s : State) : State := { s with clock := ⟨VenueTime.tick s.clock.time, s.clock.valid⟩ }

/-- An EVAC change that is due, taken (R172). -/
def State.settleEvac (s : State) : State :=
  if s.evacAssertionDue then s.assertEvac
  else if s.evacReleaseDue then s.releaseEvac
  else s

/-- What an earlier tick made due and no command has taken yet is taken, before the next tick counts:
arm timer expiries in lane order, the monitor's timeout, a change of EVAC. DESIGN CHOICE
(notes/assumptions/2.md): the order among them. -/
def State.settleDue (s : State) : State :=
  (lanesAscending.foldl State.settleExpiry s).settleTimeout.settleEvac

/-- The tick's work outside the Venue Clock: arm timers, link monitor, EVAC filter (R125, R172, R178). -/
def State.countTick (s : State) : State :=
  { s.mapLanes LaneUnit.tickTimer with gc := s.gc.tickMonitor.sampleEvac s.evacPin }

/-- VENUE_CLOCK_TICK: the Venue Clock always counts (R51); while RST is asserted nothing else does (R136,
R180). -/
def execVenueClockTick (s : State) : Host.Outcome State Fault Refusal :=
  if s.rstAsserted then .next s.tickClock else .next s.tickClock.settleDue.countTick

/-! ### The requests the Gate Controller owns -/

/-- OPEN_GATE's service (R170). -/
def openGateService (s : State) (_ : List Byte) : State × Answer :=
  match s.gc.gate with
  | .evac => (s, .refuse .evacActive)
  | _ => ({ s with gc := { s.gc with gate := .opened } }, .ok [GateState.opened.code])

/-- OPEN_GATE (R170). -/
def execOpenGate (s : State) : Host.Outcome State Fault Refusal :=
  .next (s.serveUplink .openGate openGateService)

/-- CLOSE_GATE's service (R171). -/
def closeGateService (s : State) (_ : List Byte) : State × Answer :=
  match s.gc.gate with
  | .evac => (s, .refuse .evacActive)
  | _ => ({ s with gc := { s.gc with gate := .closed } }, .ok [GateState.closed.code])

/-- CLOSE_GATE (R171). -/
def execCloseGate (s : State) : Host.Outcome State Fault Refusal :=
  .next (s.serveUplink .closeGate closeGateService)

/-- SET_IDENTITY's service: a gate id of 0 or above 63, a nibble above 9 and an event code of 00 are
refused (R176). -/
def setIdentityService (s : State) (p : List Byte) : State × Answer :=
  match gateIdOf? (byteAt p 0), eventCodeOfByte? (byteAt p 1) with
  | some g, some e =>
    if e = .unset then (s, .refuse .badArg)
    else ({ s with gc := { s.gc with gateId := g, eventCode := e } }, .ok (identityPayload g e))
  | _, _ => (s, .refuse .badArg)

/-- SET_IDENTITY (R176). -/
def execSetIdentity (s : State) : Host.Outcome State Fault Refusal :=
  .next (s.serveUplink .setIdentity setIdentityService)

/-- SET_LINK_TIMEOUT's service: a value below 2 is clamped to 2; the count is not changed (R179). -/
def setLinkTimeoutService (s : State) (p : List Byte) : State × Answer :=
  let timeout := max Config.minLinkTimeout (byteAt p 0).toNat
  ({ s with gc := { s.gc with linkTimeout := timeout } }, .ok [byteOf timeout])

/-- SET_LINK_TIMEOUT (R179). -/
def execSetLinkTimeout (s : State) : Host.Outcome State Fault Refusal :=
  .next (s.serveUplink .setLinkTimeout setLinkTimeoutService)

end Sys2Proof.Machine
end

