-- ==== Sys2Proof/Machine/Holds.lean ====
section
/-! DEFINITION. The completion services that end a hold: COMMITTED, EXPIRED and WITHDRAWN
(spec/05_holds.md, R94 to R103). -/

namespace Sys2Proof.Machine

/-- The completion that the DE may take: the lane and what its record holds (R61). -/
def State.completionInService (s : State) : Option (Lane × Completion) :=
  match s.serving with
  | some (.completion n) => (s.lanes.get n).completion.map fun c => (n, c)
  | _ => none

/-- The service of a commit completion: the hold ends COMMITTED (R98, R99). A completion at a lane whose
context names no held record, which no run reaches, ends the lane's half alone
(notes/assumptions/11.md). -/
def State.serveCommit (s : State) (n : Lane) (capture : VenueTime) : State :=
  match s.heldAt n with
  | some (slot, r, h) =>
    ((s.endCommit slot r h capture).closeHold n .committed r.ticket).finish
  | none => (s.setLane n (s.lanes.get n).endHold).finish

/-- The service of an expiry or withdrawn completion: the hold ends without commit (R101 to R103). -/
def State.serveNonCommit (s : State) (n : Lane) (howEnded : HoldEnd) : State :=
  match s.heldAt n with
  | some (slot, r, h) =>
    ((s.endNonCommit slot r h s.clock.time).closeHold n howEnded r.ticket).finish
  | none => (s.setLane n (s.lanes.get n).endHold).finish

/-- COMMIT_COMPLETION (R98, R99). -/
def execCommitCompletion (s : State) : Host.Outcome State Fault Refusal :=
  match s.completionInService with
  | some (n, .commit capture) => .next (s.serveCommit n capture)
  | _ => .next s

/-- EXPIRY_COMPLETION (R102). -/
def execExpiryCompletion (s : State) : Host.Outcome State Fault Refusal :=
  match s.completionInService with
  | some (n, .expiry) => .next (s.serveNonCommit n .expired)
  | _ => .next s

/-- WITHDRAWN_COMPLETION (R103). -/
def execWithdrawnCompletion (s : State) : Host.Outcome State Fault Refusal :=
  match s.completionInService with
  | some (n, .withdrawn) => .next (s.serveNonCommit n .withdrawn)
  | _ => .next s

end Sys2Proof.Machine
end

