-- ==== Sys2Proof/Machine/Arbiter.lean ====
section
/-! DEFINITION. The Service Arbiter, and the services of forced reports and gate events
(spec/04_the_admission_decision.md, R60 to R66). -/

namespace Sys2Proof.Machine

/-- Class 1: the lowest-numbered lane with a raised completion (R61). -/
def State.waitingCompletion (s : State) : Option Lane :=
  lanesAscending.find? fun n => (s.lanes.get n).completion.isSome

/-- Class 2: the lowest-numbered lane with a forced report (R62). -/
def State.waitingForcedReport (s : State) : Option Lane :=
  lanesAscending.find? fun n => decide (0 < (s.lanes.get n).forcedReports)

/-- A port's request slot is WAITING (R188). -/
def RequestSlot.isWaiting : RequestSlot → Bool
  | .waiting _ => true
  | _ => false

/-- The uplink request slot is WAITING (R199). -/
def UplinkSlot.isWaiting : UplinkSlot → Bool
  | .waiting _ => true
  | _ => false

/-- Class 4 among the lanes: the first lane with a waiting request from the pointer's lane on (R64). -/
def State.waitingLaneRequest (s : State) : Option Lane :=
  (lanesFrom s.pointer).find? fun n => (s.ports.get n).request.isWaiting

/-- Class 4: the lane's or the uplink's request, the side named by the turn marker when both wait (R65). -/
def State.waitingRequest (s : State) : Option Service :=
  match s.waitingLaneRequest, s.uplink.slot.isWaiting with
  | some n, false => some (.laneRequest n)
  | some n, true =>
    match s.turn with
    | .lane => some (.laneRequest n)
    | .uplink => some .uplinkRequest
  | none, true => some .uplinkRequest
  | none, false => none

/-- Class 5: a backfill step waits when the journal has room and a report is pending (R66). -/
def State.backfillWaits (s : State) : Bool := s.journalHasRoom && decide (0 < s.pendingCount)

/-- The item the Service Arbiter takes: from the first class that has one waiting (R60). -/
def State.nextService (s : State) : Option Service :=
  [s.waitingCompletion.map .completion, s.waitingForcedReport.map .forcedReport,
    if s.gc.events = [] then none else some .gateEvent, s.waitingRequest,
    if s.backfillWaits then some .backfill else none].findSome? id

/-- A chosen lane request moves from WAITING to IN_SERVICE (R188). -/
def RequestSlot.takeUp : RequestSlot → RequestSlot
  | .waiting r => .inService r
  | q => q

/-- A chosen uplink request moves from WAITING to IN_SERVICE (R199). -/
def UplinkSlot.takeUp : UplinkSlot → UplinkSlot
  | .waiting r => .inService r
  | q => q

/-- The chosen item is set aside for the DE, its request slot moved to IN_SERVICE. -/
def State.choose (s : State) (item : Service) : State :=
  let s := { s with chosen := some item }
  match item with
  | .laneRequest n => s.setPort n { s.ports.get n with request := (s.ports.get n).request.takeUp }
  | .uplinkRequest => { s with uplink := { s.uplink with slot := s.uplink.slot.takeUp } }
  | _ => s

/-- The Service Arbiter may choose: the DE is taking no service, RST is deasserted and no RESTART has been
served (R60, R180, R205). -/
def State.mayChoose (s : State) : Bool := !s.rstAsserted && !s.restarting && s.chosen.isNone

/-- SERVICE_ARBITER_CHOICE: commands still in flight are taken before the choice (R91), and the next service
is chosen if an item waits (R60). -/
def execServiceArbiterChoice (s : State) : Host.Outcome State Fault Refusal :=
  if s.mayChoose then
    let s := s.settleCommands
    match s.nextService with
    | some item => .next (s.choose item)
    | none => .next s
  else .next s

/-- The forced report served: the lane unit's count falls and the context's count since poll rises (R62,
R71). -/
def State.takeForcedReport (s : State) (n : Lane) : State :=
  let lu := s.lanes.get n
  let c := s.contexts.get n
  (s.setLane n { lu with forcedReports := lu.forcedReports - 1 }).setContext n
    { c with forcedSincePoll := min (c.forcedSincePoll + 1) Config.forcedLimit }

/-- FORCED_REPORT_SERVICE: a FORCED entry is appended or dropped (R62, R160). -/
def execForcedReportService (s : State) : Host.Outcome State Fault Refusal :=
  match s.serving with
  | some (.forcedReport n) =>
    .next ((s.takeForcedReport n).reportRecordless .forced (.lane n) s.clock.time).finish
  | _ => .next s

/-- The journal kind of a gate event (R63). -/
def GateEvent.kind : GateEvent → Kind
  | .evacBegin => .evacBegin
  | .evacEnd => .evacEnd
  | .linkLost => .linkLost
  | .linkBack => .linkBack

/-- GATE_EVENT_SERVICE: the oldest gate event is removed and its entry appended or dropped (R63, R160,
R175). -/
def execGateEventService (s : State) : Host.Outcome State Fault Refusal :=
  match s.serving, s.gc.events with
  | some .gateEvent, e :: rest =>
    .next
      (({ s with gc := { s.gc with events := rest } }.reportRecordless e.kind (.gate s.gc.gateId)
        s.clock.time).finish)
  | _, _ => .next s

end Sys2Proof.Machine
end

