-- ==== Sys2Proof/Machine/JournalRequests.lean ====
section
/-! DEFINITION. Backfill, TAKE_JOURNAL and SET_WATERMARK (spec/08_the_journal.md, R162 to R165). -/

namespace Sys2Proof.Machine

/-- The pending-report flag of a slot's record set to no, and the count lowered (R30, R162). -/
def State.clearPending (s : State) (slot : Nat) (r : Record) : State :=
  State.driveAttn
    { s.setRecord slot { r with pendingReport := false } with pendingCount := s.pendingCount - 1 }

/-- BACKFILL_STEP: a SNAPSHOT of the lowest-slot flagged record (R162, R163). -/
def execBackfillStep (s : State) : Host.Outcome State Fault Refusal :=
  match s.serving, s.table.firstPending, s.journalHasRoom with
  | some .backfill, some (slot, r), true =>
    .next
      ((s.append .snapshot (.gate s.gc.gateId) s.clock.time
        (some (r.fields (s.zoneOf r)))).clearPending slot r).finish
  | some .backfill, _, _ => .next s.finish
  | _, _, _ => .next s

/-- TAKE_JOURNAL's service: up to 16 oldest entries are removed and returned (R164). -/
def takeJournalService (s : State) (p : List Byte) : State × Answer :=
  let k := min (byteAt p 0).toNat Config.takeLimit
  let rest := s.journal.drop k
  (State.driveAttn { s with journal := rest }, .ok (journalPayload (s.journal.take k) rest.length))

/-- TAKE_JOURNAL (R164). -/
def execTakeJournal (s : State) : Host.Outcome State Fault Refusal :=
  .next (s.serveUplink .takeJournal takeJournalService)

/-- SET_WATERMARK's service: the count clamped to 1..1,024 (R165). -/
def setWatermarkService (s : State) (p : List Byte) : State × Answer :=
  let w := clamp 1 Config.journalCapacity (field16 p 0).toNat
  (State.driveAttn { s with watermark := w }, .ok (bytes16 w))

/-- SET_WATERMARK (R165). -/
def execSetWatermark (s : State) : Host.Outcome State Fault Refusal :=
  .next (s.serveUplink .setWatermark setWatermarkService)

end Sys2Proof.Machine
end

