-- ==== Sys2Proof/Machine/TableRequests.lean ====
section
/-! DEFINITION. The table requests (spec/02_the_admission_table.md, R31 to R37). -/

namespace Sys2Proof.Machine

/-- LOAD_TICKET's service, its tests in the order of R32, then insertion (R33) or replacement (R34). -/
def loadTicketService (s : State) (p : List Byte) : State × Answer :=
  match ticketOfBytes? (bytesAt p 0 8) with
  | none => (s, .refuse .badArg)
  | some t =>
    if ticketWellFormed t = false then (s, .refuse .badCheck)
    else
      match recordOf? t p with
      | none => (s, .refuse .badRecord)
      | some r =>
        match s.table.lookup t with
        | none =>
          if Config.tableCapacity ≤ s.table.length then (s, .refuse .tableFull)
          else
            let slot := s.table.lowestFree
            ({ s with table := s.table.insert slot r }, .ok (bytes16 slot))
        | some (slot, old) =>
          if old.isHeld then (s, .refuse .held)
          else if old.pendingReport then (s, .refuse .pendingReport)
          else (s.setRecord slot r, .ok (bytes16 slot))

/-- LOAD_TICKET (R32). -/
def execLoadTicket (s : State) : Host.Outcome State Fault Refusal :=
  .next (s.serveUplink .loadTicket loadTicketService)

/-- DROP_TICKET's service (R35). -/
def dropTicketService (s : State) (p : List Byte) : State × Answer :=
  match ticketOfBytes? (bytesAt p 0 8) with
  | none => (s, .refuse .badArg)
  | some t =>
    match s.table.lookup t with
    | none => (s, .refuse .notFound)
    | some (slot, r) =>
      if r.isHeld then (s, .refuse .held)
      else if r.pendingReport then (s, .refuse .pendingReport)
      else ({ s with table := s.table.erase slot }, .ok (bytes16 slot))

/-- DROP_TICKET (R35). -/
def execDropTicket (s : State) : Host.Outcome State Fault Refusal :=
  .next (s.serveUplink .dropTicket dropTicketService)

/-- CLEAR_TABLE's service (R36). -/
def clearTableService (s : State) (_ : List Byte) : State × Answer :=
  if s.gc.gate ≠ .closed then (s, .refuse .gateOpen)
  else if s.table.any fun e => e.2.isHeld then (s, .refuse .holdsActive)
  else (State.driveAttn { s with table := [], pendingCount := 0 }, .ok [])

/-- CLEAR_TABLE (R36). -/
def execClearTable (s : State) : Host.Outcome State Fault Refusal :=
  .next (s.serveUplink .clearTable clearTableService)

/-- QUERY_TICKET's service (R37). -/
def queryTicketService (s : State) (p : List Byte) : State × Answer :=
  match ticketOfBytes? (bytesAt p 0 8) with
  | none => (s, .refuse .badArg)
  | some t =>
    match s.table.lookup t with
    | none => (s, .refuse .notFound)
    | some (slot, r) => (s, .ok (queryPayload slot r))

/-- QUERY_TICKET (R37). -/
def execQueryTicket (s : State) : Host.Outcome State Fault Refusal :=
  .next (s.serveUplink .queryTicket queryTicketService)

end Sys2Proof.Machine
end

