-- ==== Sys2Proof/Machine/ClassZoneClock.lean ====
section
/-! DEFINITION. SET_CLASS, SET_ZONE, SET_CLOCK and READ_CLOCK
(spec/03_classes_zones_and_the_venue_clock.md, R43, R49, R52, R53). -/

namespace Sys2Proof.Machine

/-- SET_CLASS' service (R43). -/
def setClassService (s : State) (p : List Byte) : State × Answer :=
  match classRecordOf? p with
  | none => (s, .refuse .badArg)
  | some (c, r) => ({ s with classes := s.classes.set c r }, .ok (classPayload c r))

/-- SET_CLASS (R43). -/
def execSetClass (s : State) : Host.Outcome State Fault Refusal :=
  .next (s.serveUplink .setClass setClassService)

/-- SET_ZONE's service: each field carried replaces the zone's, and reserved is untouched (R49). -/
def setZoneService (s : State) (p : List Byte) : State × Answer :=
  match upTo15? (byteAt p 0) with
  | none => (s, .refuse .badArg)
  | some z =>
    let old := s.zones.get z
    let new : ZoneRecord :=
      { capacity := if bitAt (byteAt p 1) 0 then field16 p 2 else old.capacity
        occupancy := if bitAt (byteAt p 1) 1 then field16 p 4 else old.occupancy
        reserved := old.reserved }
    (s.modifyZone z fun _ => new, .ok (zonePayload z new))

/-- SET_ZONE (R49). -/
def execSetZone (s : State) : Host.Outcome State Fault Refusal :=
  .next (s.serveUplink .setZone setZoneService)

/-- SET_CLOCK's service: the seconds carried, fraction 0, valid set (R52). -/
def setClockService (s : State) (p : List Byte) : State × Answer :=
  let c : Clock := { time := ⟨field32 p 0, 0⟩, valid := true }
  ({ s with clock := c }, .ok (clockPayload c))

/-- SET_CLOCK (R52). -/
def execSetClock (s : State) : Host.Outcome State Fault Refusal :=
  .next (s.serveUplink .setClock setClockService)

/-- READ_CLOCK's service (R53). -/
def readClockService (s : State) (_ : List Byte) : State × Answer := (s, .ok (clockPayload s.clock))

/-- READ_CLOCK (R53). -/
def execReadClock (s : State) : Host.Outcome State Fault Refusal :=
  .next (s.serveUplink .readClock readClockService)

end Sys2Proof.Machine
end

