-- ==== Sys2Proof/Machine/Notices.lean ====
section
/-! DEFINITION. NOTE_ADMIT, NOTE_EXIT and REVOKE
(spec/07_notices_from_other_gates_and_revocation.md, R137 to R149). -/

namespace Sys2Proof.Machine

/-- A withdraw command sent to a lane (R106). -/
def State.sendWithdraw (s : State) (n : Lane) : State :=
  { s with commands := s.commands ++ [.withdraw n] }

/-- A DOUBLE entry from a notice, built from the record as the service leaves it (R145). -/
def State.reportDouble (s : State) (slot : Nat) (r : Record) (x : Notice) : State :=
  s.report slot r .double (.gate x.gate) x.time (s.zoneOf r)

/-- The answer of a notice or revocation whose record was found (R139). -/
def noticeAnswer (st : Status) (slot : Nat) (r : Record) (withdrawSent : Bool) : Answer :=
  ⟨st, noticePayload slot r withdrawSent⟩

/-- A record admitted at another gate (R140). -/
def Record.admittedElsewhere (r : Record) (x : Notice) : Record :=
  { r with
    state := .inside
    entries := raiseEntries r.entries
    lastPassage := some ⟨x.time, .gate x.gate⟩ }

/-- A NOTE_ADMIT on a held record: an exit hold is answered HELD (R144); an entry hold takes the remote
mark (R142), or keeps the one it has and journals DOUBLE (R143), counts the person in and gets a
withdraw command. -/
def noteAdmitHeld (s : State) (slot : Nat) (r : Record) (h : Hold) (x : Notice) : State × Answer :=
  match h.direction, h.remoteMark with
  | .OUT, _ => (s, noticeAnswer .held slot r false)
  | .IN, none =>
    let r' := { r with state := .held { h with remoteMark := some ⟨x.gate, x.time⟩ } }
    (((s.setRecord slot r').modifyZone (s.zoneOf r) ZoneRecord.countIn).sendWithdraw h.lane,
      noticeAnswer .ok slot r' true)
  | .IN, some _ =>
    (((s.modifyZone (s.zoneOf r) ZoneRecord.countIn).reportDouble slot r x).sendWithdraw h.lane,
      noticeAnswer .ok slot r true)

/-- A NOTE_ADMIT on a record found (R140 to R144). -/
def noteAdmitFound (s : State) (slot : Nat) (r : Record) (x : Notice) : State × Answer :=
  let admitted := r.admittedElsewhere x
  let applied :=
    ((s.setRecord slot admitted).modifyZone (s.zoneOf r) ZoneRecord.countIn,
      noticeAnswer .ok slot admitted false)
  let doubled := (s.reportDouble slot r x, noticeAnswer .ok slot r false)
  match r.state with
  | .valid => applied
  | .outside => applied
  | .inside => doubled
  | .spent => doubled
  | .revoked => doubled
  | .held h => noteAdmitHeld s slot r h x

/-- The common tests of a notice, then its own effect on the record found (R137, R138). -/
def noticeService (found : State → Nat → Record → Notice → State × Answer) (s : State)
    (p : List Byte) : State × Answer :=
  match noticeOf? p with
  | none => (s, .refuse .badArg)
  | some x =>
    if x.gate = s.gc.gateId then (s, .refuse .echo)
    else
      match s.table.lookup x.ticket with
      | none => (s, .refuse .notFound)
      | some (slot, r) => found s slot r x

/-- NOTE_ADMIT (R140 to R144). -/
def execNoteAdmit (s : State) : Host.Outcome State Fault Refusal :=
  .next (s.serveUplink .noteAdmit (noticeService noteAdmitFound))

/-- A record that passed out at another gate (R146). -/
def Record.exitedElsewhere (r : Record) (c : ClassRecord) (x : Notice) : Record :=
  { r with
    state := outsideOrSpent r.entries c.limit
    lastPassage := some ⟨x.time, .gate x.gate⟩ }

/-- A NOTE_EXIT on a record found (R146, R147). -/
def noteExitFound (s : State) (slot : Nat) (r : Record) (x : Notice) : State × Answer :=
  match r.state with
  | .inside =>
    let r' := r.exitedElsewhere (s.classOf r) x
    ((s.setRecord slot r').modifyZone (s.zoneOf r) ZoneRecord.countOut, noticeAnswer .ok slot r' false)
  | .held _ => (s, noticeAnswer .held slot r false)
  | _ => (s, noticeAnswer .notInside slot r false)

/-- NOTE_EXIT (R146, R147). -/
def execNoteExit (s : State) : Host.Outcome State Fault Refusal :=
  .next (s.serveUplink .noteExit (noticeService noteExitFound))

/-- REVOKE's service (R148, R149). -/
def revokeService (s : State) (p : List Byte) : State × Answer :=
  match ticketOfBytes? (bytesAt p 0 8) with
  | none => (s, .refuse .badArg)
  | some t =>
    match s.table.lookup t with
    | none => (s, .refuse .notFound)
    | some (slot, r) =>
      match r.state with
      | .held h =>
        let r' := { r with state := .held { h with revokeMark := true } }
        ((s.setRecord slot r').sendWithdraw h.lane, noticeAnswer .ok slot r' true)
      | _ =>
        let r' := { r with state := .revoked }
        (s.setRecord slot r', noticeAnswer .ok slot r' false)

/-- REVOKE (R148, R149). -/
def execRevoke (s : State) : Host.Outcome State Fault Refusal :=
  .next (s.serveUplink .revoke revokeService)

end Sys2Proof.Machine
end

