-- ==== Sys2Proof/Machine/LaneLinks.lean ====
section
/-! DEFINITION. Transfers on the lane links (spec/10_lane_links.md, R183 to R195). -/

namespace Sys2Proof.Machine

/-- LSELn asserted: the reply the slot holds is noted (R192). While RST is asserted the transfer is ignored
at its end (R195). A transfer already in progress goes on. -/
def Port.beginTransfer (p : Port) (rstAsserted : Bool) : Port :=
  match p.transfer with
  | .none => { p with transfer := if rstAsserted then .ignored else .active p.reply false }
  | _ => p

/-- The reply read is settled: the noted reply, if it still stands in the slot and all its bytes were clocked
out, has been read (R192). -/
def Port.settleRead (p : Port) (noted : Option LaneReply) (overtaken : Bool) (wholeBytes : Nat) :
    Port :=
  match noted, overtaken with
  | some r, false =>
    if r.frame.length ≤ wholeBytes then { p with reply := none, ready := false } else p
  | _, _ => p

/-- The inbound bytes are taken as a request frame or as no request: a bad frame is answered at once (R187),
a request enters an EMPTY slot (R188) or is discarded with the overrun marker set (R189). -/
def Port.takeInbound (p : Port) (i : Inbound) : Port :=
  match i with
  | .noRequest => p
  | .badFrame => p.place (.badFrame false)
  | .request r =>
    match p.request with
    | .empty => { p with request := .waiting r }
    | _ => { p with overrun := true }

/-- LSELn deasserted: the reply read is settled, then the inbound bytes are taken (R183). A transfer that is
ignored, or that ends while RST is asserted, does neither (R195). -/
def Port.endTransfer (p : Port) (rstAsserted : Bool) (bits : List Bool) : Port :=
  let ended := { p with transfer := .none }
  match p.transfer with
  | .active noted overtaken =>
    if rstAsserted then ended
    else
      (ended.settleRead noted overtaken (bits.length / 8)).takeInbound (parseInbound (bytesOfBits bits))
  | _ => ended

/-- TRANSFER_BEGIN at a lane (R192). -/
def execTransferBegin (n : Lane) (s : State) : Host.Outcome State Fault Refusal :=
  .next (s.setPort n ((s.ports.get n).beginTransfer s.rstAsserted))

/-- TRANSFER_END at a lane, with the bits clocked in (R183). -/
def execTransferEnd (n : Lane) (bits : List Bool) (s : State) : Host.Outcome State Fault Refusal :=
  .next (s.setPort n ((s.ports.get n).endTransfer s.rstAsserted bits))

end Sys2Proof.Machine
end

