-- ==== Sys2Proof/Machine/Uplink.lean ====
section
/-! DEFINITION. The Uplink Port: characters, frames, BUSY, the reply buffer, STATUS, RESTART and requests that
are none (spec/11_the_uplink.md, R196 to R205). -/

namespace Sys2Proof.Machine

/-- A BUSY reply is placed, unless 7 BUSY replies already wait (R199, R201). -/
def UplinkPort.answerBusy (u : UplinkPort) (r : UplinkRequest) : UplinkPort :=
  if (u.replies.filter fun q => q.status = .busy).length < Config.busyCapacity then
    { u with replies := u.replies ++ [⟨r.type, .busy, []⟩] }
  else u

/-- A well-formed frame's request enters an EMPTY slot, or is answered BUSY (R199). -/
def UplinkPort.takeRequest (u : UplinkPort) (r : UplinkRequest) : UplinkPort :=
  match u.slot with
  | .empty => { u with slot := .waiting r }
  | _ => u.answerBusy r

/-- A complete frame in the receiver is taken: one that sums to 0x00 restarts the link monitor and is handed to
the slot, any other is discarded, and the receiver returns to HUNT (R197, R198). -/
def State.arrive (s : State) : State :=
  match s.uplink.receiver.complete? with
  | none => s
  | some frame =>
    let hunting := { s.uplink with receiver := .hunt }
    if sum8 frame = 0 then
      { s with gc := s.gc.hearFrame, uplink := hunting.takeRequest (requestOfFrame frame) }
    else { s with uplink := hunting }

/-- UPLINK_FRAME_ARRIVAL (R197); held while RST is asserted (R206). -/
def execUplinkFrameArrival (s : State) : Host.Outcome State Fault Refusal :=
  if s.rstAsserted then .next s else .next s.arrive

/-- CHARACTER_RECEIVED (R197, R198). A complete frame whose arrival has not been taken is taken first; while RST
is asserted the receiver takes no character (R206). -/
def execCharacterReceived (c : Character) (s : State) : Host.Outcome State Fault Refusal :=
  if s.rstAsserted then .next s
  else
    let s := s.arrive
    .next { s with uplink := { s.uplink with receiver := s.uplink.receiver.take c } }

/-- A frame in HEADER or BODY is discarded; a frame whose last character has been received is not, since the
limit does not apply after the check byte (R198). -/
def Receiver.afterGap (rx : Receiver) : Receiver :=
  match rx.complete? with
  | some _ => rx
  | none => .hunt

/-- INTER_BYTE_GAP: more than 50 ms have passed since the last character (R198). -/
def execInterByteGap (s : State) : Host.Outcome State Fault Refusal :=
  if s.rstAsserted then .next s
  else .next { s with uplink := { s.uplink with receiver := s.uplink.receiver.afterGap } }

/-- REPLY_SENT: the last character of the reply at the head of the buffer is sent. When it is the slot's reply
the slot becomes EMPTY (R199, R201), and after a RESTART reply the warm reset is due (R205), before which no
further reply is sent. A BUSY reply only leaves the buffer (notes/assumptions/5.md). -/
def execReplySent (s : State) : Host.Outcome State Fault Refusal :=
  match s.rstAsserted || s.warmResetDue, s.uplink.replies with
  | false, r :: rest =>
    if r.status = .busy then .next { s with uplink := { s.uplink with replies := rest } }
    else
      .next
        { s with
          uplink := { s.uplink with replies := rest, slot := .empty }
          warmResetDue := s.restarting }
  | _, _ => .next s

/-- UNKNOWN_REQUEST: an unknown type, a wrong payload length or a bad presence byte is answered BAD_ARG (R200). -/
def execUnknownRequest (s : State) : Host.Outcome State Fault Refusal :=
  .next (s.serveUplink .unknown fun s _ => (s, .refuse .badArg))

/-- STATUS (R204). -/
def execStatus (s : State) : Host.Outcome State Fault Refusal :=
  .next (s.serveUplink .status fun s _ => (s, .ok (statusPayload s)))

/-- RESTART: the reply is OK, and the Decision Engine takes no further service (R205). -/
def execRestart (s : State) : Host.Outcome State Fault Refusal :=
  .next (s.serveUplink .restart fun s _ => ({ s with restarting := true }, .ok []))

end Sys2Proof.Machine
end

