-- ==== Sys2Proof/Machine/Resets.lean ====
section
/-! DEFINITION. Power-on reset, the RST input, the warm reset and the EVAC pin (R38 to R40, R45, R50, R54, R67,
R72, R105, R135, R136, R167, R168, R180, R181, R194, R195, R206). -/

namespace Sys2Proof.Machine

/-! ### Power-on reset -/

/-- A lane unit after power-on: the sampled pair is the reference, and under an asserted EVAC pin FREE is sent
(R135, R181). -/
def LaneUnit.powerOn (pair : EncoderPair) (evac : Bool) : LaneUnit :=
  let lu := { LaneUnit.reset with reference := pair }
  if evac then lu.takeFree else lu.driveLocks

/-- The Gate Controller after power-on (R181). DEDUCED (notes/assumptions/23.md): under an asserted EVAC pin it holds
EVAC_BEGIN, as R181 says, where R67 says in general that it holds no gate event. -/
def GateController.powerOn (evac : Bool) : GateController :=
  let g := { GateController.reset with accepted := evac, previousSample := evac }
  if evac then GateController.raise { g with gate := .evac } .evacBegin else g

/-- A port after power-on: a transfer whose LSELn assertion came before the end of the reset is ignored at its
end (R194). -/
def Port.powerOn (selected : Bool) : Port :=
  { Port.reset with transfer := if selected then .ignored else .none }

/-- The part after power-on, from the input levels sampled. -/
def State.powerOn (pins : PowerPins) : State :=
  { State.reset with
    lanes := pins.encoders.map fun pair => LaneUnit.powerOn pair pins.evac
    gc := .powerOn pins.evac
    ports := pins.selected.map Port.powerOn
    uplink := { UplinkPort.reset with straps := pins.straps }
    evacPin := pins.evac }

/-- POWER_ON_RESET: every block takes its power-on values (R181); the queue of commands is the sender's. -/
def execPowerOnReset (pins : PowerPins) (s : State) : Host.Outcome State Fault Refusal :=
  .next { State.powerOn pins with pending := s.pending }

/-! ### The RST input and the EVAC pin -/

/-- While RST is asserted both lock outputs follow the EVAC pin (R126, R180). -/
def LaneUnit.followPin (pin : Bool) (lu : LaneUnit) : LaneUnit :=
  { lu with lockIn := pin, lockOut := pin }

/-- What earlier steps made due and no command has taken is taken, before a reset stops it: a complete frame's
arrival, then what the ticks made due. DESIGN CHOICE (notes/assumptions/2.md, 4.md): the order. -/
def State.settleAll (s : State) : State := s.arrive.settleDue

/-- RST asserted at a part with nothing due: the part is held, the lock outputs follow the EVAC pin, and a frame
under reception is discarded (R180, R206). -/
def State.holdReset (s : State) : State :=
  { s.mapLanes (LaneUnit.followPin s.evacPin) with
    rstAsserted := true, uplink := { s.uplink with receiver := .hunt } }

/-- RST_ASSERTION (R180). -/
def execRstAssertion (s : State) : Host.Outcome State Fault Refusal :=
  if s.rstAsserted then .next s else .next s.settleAll.holdReset

/-- EVAC_PIN_CHANGE: the pin takes a level; while RST is asserted every lane's lock outputs follow it at once
(R180), and otherwise the ticks sample it (R172). -/
def execEvacPinChange (level : Bool) (s : State) : Host.Outcome State Fault Refusal :=
  let s := { s with evacPin := level }
  if s.rstAsserted then .next (s.mapLanes (LaneUnit.followPin level)) else .next s

/-! ### The warm reset -/

/-- The hold of a slot's record is ended by the reset as a non-commit end (R40, R105). -/
def State.endByReset (s : State) (slot : Nat) : State :=
  match s.table.get? slot with
  | some r =>
    match r.hold? with
    | some h => s.endNonCommit slot r h s.clock.time
    | none => s
  | none => s

/-- Every hold is ended, in ascending order of the holding lane (R40). -/
def State.endAllHolds (s : State) : State :=
  lanesAscending.foldl (fun s n => (s.table.slotsHeldBy n).foldl State.endByReset s) s

/-- A lane unit after a warm reset (R136). -/
def LaneUnit.warmReset (lu : LaneUnit) (pair : EncoderPair) (evac : Bool) : LaneUnit :=
  LaneUnit.goTo
    { lu with
      live := lu.preload, accumulator := 0, counted := false, reference := pair, armTimer := none,
      overdue := false, hold := none, completion := none, forcedReports := 0 }
    (if evac then .free else lu.role.restingState)

/-- The gate state after a warm reset (R180). -/
def gateAfterReset (evac : Bool) : GateState := if evac then .evac else .closed

/-- The gate event of a warm reset: EVAC_BEGIN when the gate is now EVAC and was not, EVAC_END when it was EVAC
and is now CLOSED (R180). -/
def GateController.raiseEvacChange (g : GateController) (before : GateState) : GateController :=
  if g.gate = .evac ∧ before ≠ .evac then g.raise .evacBegin
  else if g.gate ≠ .evac ∧ before = .evac then g.raise .evacEnd
  else g

/-- LINK_LOST when the link was ONLINE before the reset, and the link OFFLINE with the count at 0 (R180). -/
def GateController.dropLink (g : GateController) : GateController :=
  let down := { g with link := .offline, monitorCount := 0, timeoutDue := false }
  match g.link with
  | .online => down.raise .linkLost
  | .offline => down

/-- The Gate Controller after a warm reset (R180, R181). -/
def GateController.warmReset (g : GateController) (evac : Bool) : GateController :=
  { (GateController.raiseEvacChange
      { g with gate := gateAfterReset evac, accepted := evac, previousSample := evac, evacDue := false }
      g.gate).dropLink with
    resetCause := .warm }

/-- A transfer in progress at the reset is ignored at its end (R195). DESIGN CHOICE (notes/assumptions/20.md):
LSOn carries filler for the rest of it, and the reply noted at its start is sent no further. -/
def Transfer.interrupt : Transfer → Transfer
  | .none => .none
  | _ => .ignored

/-- A port after a warm reset (R195). DESIGN CHOICE (notes/assumptions/21.md): a request that was chosen and
IN_SERVICE when the reset came, its service not taken, is discarded without a reply, as one WAITING is. -/
def Port.warmReset (p : Port) : Port :=
  { request := .empty, reply := none, overrun := false, ready := false,
    transfer := p.transfer.interrupt }

/-- The part after a warm reset, from the input levels sampled. -/
def State.warmReset (s : State) (pins : WarmPins) : State :=
  let s := s.endAllHolds
  State.driveAttn
    { s with
      zones := s.zones.map fun z => { z with reserved := 0 }
      contexts := .replicate 6 .empty
      pointer := 0
      turn := .lane
      chosen := none
      restarting := false
      commands := []
      lanes := Vector.zipWith (fun lu pair => lu.warmReset pair s.evacPin) s.lanes pins.encoders
      gc := s.gc.warmReset s.evacPin
      ports := s.ports.map Port.warmReset
      uplink := { UplinkPort.reset with straps := pins.straps }
      rstAsserted := false
      warmResetDue := false }

/-- WARM_RESET: taken when RST returns to deasserted, or after the RESTART reply has been sent (R180, R205). -/
def execWarmReset (pins : WarmPins) (s : State) : Host.Outcome State Fault Refusal :=
  if s.rstAsserted then .next (s.warmReset pins)
  else if s.warmResetDue then .next (s.settleAll.warmReset pins)
  else .next s

end Sys2Proof.Machine
end

