-- ==== Sys2Proof/Machine/Dispatch.lean ====
section
/-! DEFINITION. One arm for each command: a direct call of its meaning. -/

namespace Sys2Proof.Machine

/-- The effect of a command on everything but the queue. -/
def exec (i : Instr) (s : State) : Host.Outcome State Fault Refusal :=
  match i with
  | .powerOnReset pins => Sys2Proof.Machine.execPowerOnReset pins s
  | .rstAssertion => Sys2Proof.Machine.execRstAssertion s
  | .warmReset pins => Sys2Proof.Machine.execWarmReset pins s
  | .venueClockTick => Sys2Proof.Machine.execVenueClockTick s
  | .evacAssertion => Sys2Proof.Machine.execEvacAssertion s
  | .evacRelease => Sys2Proof.Machine.execEvacRelease s
  | .encoderEvent lane pair => Sys2Proof.Machine.execEncoderEvent lane pair s
  | .armTimerExpiry lane => Sys2Proof.Machine.execArmTimerExpiry lane s
  | .armCommand => Sys2Proof.Machine.execArmCommand s
  | .withdrawCommand => Sys2Proof.Machine.execWithdrawCommand s
  | .linkMonitorTimeout => Sys2Proof.Machine.execLinkMonitorTimeout s
  | .commitCompletion => Sys2Proof.Machine.execCommitCompletion s
  | .expiryCompletion => Sys2Proof.Machine.execExpiryCompletion s
  | .withdrawnCompletion => Sys2Proof.Machine.execWithdrawnCompletion s
  | .forcedReportService => Sys2Proof.Machine.execForcedReportService s
  | .gateEventService => Sys2Proof.Machine.execGateEventService s
  | .backfillStep => Sys2Proof.Machine.execBackfillStep s
  | .transferEnd lane bits => Sys2Proof.Machine.execTransferEnd lane bits s
  | .presentCode => Sys2Proof.Machine.execPresentCode s
  | .presentCard => Sys2Proof.Machine.execPresentCard s
  | .cancel => Sys2Proof.Machine.execCancel s
  | .poll => Sys2Proof.Machine.execPoll s
  | .uplinkFrameArrival => Sys2Proof.Machine.execUplinkFrameArrival s
  | .interByteGap => Sys2Proof.Machine.execInterByteGap s
  | .replySent => Sys2Proof.Machine.execReplySent s
  | .unknownRequest => Sys2Proof.Machine.execUnknownRequest s
  | .loadTicket => Sys2Proof.Machine.execLoadTicket s
  | .dropTicket => Sys2Proof.Machine.execDropTicket s
  | .clearTable => Sys2Proof.Machine.execClearTable s
  | .queryTicket => Sys2Proof.Machine.execQueryTicket s
  | .setClass => Sys2Proof.Machine.execSetClass s
  | .setZone => Sys2Proof.Machine.execSetZone s
  | .setClock => Sys2Proof.Machine.execSetClock s
  | .readClock => Sys2Proof.Machine.execReadClock s
  | .noteAdmit => Sys2Proof.Machine.execNoteAdmit s
  | .noteExit => Sys2Proof.Machine.execNoteExit s
  | .revoke => Sys2Proof.Machine.execRevoke s
  | .takeJournal => Sys2Proof.Machine.execTakeJournal s
  | .setWatermark => Sys2Proof.Machine.execSetWatermark s
  | .openGate => Sys2Proof.Machine.execOpenGate s
  | .closeGate => Sys2Proof.Machine.execCloseGate s
  | .setIdentity => Sys2Proof.Machine.execSetIdentity s
  | .setLinkTimeout => Sys2Proof.Machine.execSetLinkTimeout s
  | .setLane => Sys2Proof.Machine.execSetLane s
  | .readTallies => Sys2Proof.Machine.execReadTallies s
  | .status => Sys2Proof.Machine.execStatus s
  | .restart => Sys2Proof.Machine.execRestart s
  | .transferBegin lane => Sys2Proof.Machine.execTransferBegin lane s
  | .characterReceived c => Sys2Proof.Machine.execCharacterReceived c s
  | .serviceArbiterChoice => Sys2Proof.Machine.execServiceArbiterChoice s
  | .evacPinChange level => Sys2Proof.Machine.execEvacPinChange level s

end Sys2Proof.Machine
end

