-- ==== Sys2Proof/Safety.lean ====
section
/-! DEFINITION. What counts as a safe state of the DA608: the conditions that the spec states of every moment
(R17, R21 to R26, R30, R47, R48, R60, R69, R90, R107, R115, R116, R120, R126, R130, R153, R154, R157, R166,
R169, R175, R192, R199, R201), gathered as one invariant. -/

namespace Sys2Proof.Machine

/-- A UID has one of the lengths a card can return (R8, R23). -/
abbrev uidOk (u : Uid) : Prop := u.length = 4 ∨ u.length = 7 ∨ u.length = 10

/-- A hold's direction, prior state, reserved zone and remote mark agree (R26, R28). -/
abbrev Hold.Ok (h : Hold) : Prop :=
  (∀ u ∈ h.uid, uidOk u) ∧
  match h.direction with
  | .IN => h.prior ≠ .inside ∧ h.reservedZone ≠ none ∧ ∀ m ∈ h.remoteMark, m.gate ≠ 0
  | .OUT => h.prior = .inside ∧ h.reservedZone = none ∧ h.remoteMark = none

/-- Entries used and last passage agree with a state that carries no hold: VALID has entries 0 and no last
passage; INSIDE, OUTSIDE and SPENT have entries 1..15 (R21, R24). -/
abbrev entriesAgree (name : StateName) (r : Record) : Prop :=
  match name with
  | .valid => r.entries = 0 ∧ r.lastPassage = none
  | .revoked => True
  | _ => r.entries ≠ 0

/-- A record is consistent: its entries agree with its state, or with its prior state while HELD (R21, R24),
its binding has a card's length (R23), and a remote source is a set gate id (R22). -/
abbrev Record.Ok (r : Record) : Prop :=
  entriesAgree r.reportedState r ∧ (∀ h ∈ r.hold?, h.Ok) ∧ (∀ u ∈ r.binding, uidOk u) ∧
    ∀ lp ∈ r.lastPassage, lp.source ≠ .gate 0

/-- The Admission Table: slots in order and in range, no ticket number twice, every check digit correct (R17). -/
abbrev State.TableOk (s : State) : Prop :=
  s.table.wf = true ∧ (s.table.map fun e => e.2.ticket).Nodup ∧
    ∀ e ∈ s.table, ticketWellFormed e.2.ticket = true

/-- Every record is consistent (R20 to R26). -/
abbrev State.RecordsOk (s : State) : Prop := ∀ e ∈ s.table, e.2.Ok

/-- The number of records that owe a report. -/
def State.flagged (s : State) : Nat := (s.table.filter fun e => e.2.pendingReport).length

/-- The pending count equals the number of records whose pending-report flag is set (R30). -/
abbrev State.PendingOk (s : State) : Prop := s.pendingCount = s.flagged

/-- The number of holds that reserve a place in a zone. -/
def State.holdsReserving (s : State) (z : ZoneNo) : Nat :=
  (s.table.filter fun e => e.2.hold?.any fun h => h.reservedZone = some z).length

/-- Every zone's reserved count equals the number of holds reserved against it (R48). -/
abbrev State.ReservedOk (s : State) : Prop :=
  ∀ z : ZoneNo, (s.zones.get z).reserved = s.holdsReserving z

/-- A record is HELD exactly when one lane context's hold reference names it: the record a context names is held
by that lane, and a held record is named by the context of its lane (R25, R69). -/
abbrev State.BondOk (s : State) : Prop :=
  (∀ n : Lane, ∀ ref ∈ (s.contexts.get n).holdRef,
    ∃ x ∈ s.heldAt n, x.1 = ref.slot ∧ x.2.1.ticket = ref.ticket ∧ x.2.2.lane = n) ∧
  ∀ e ∈ s.table, ∀ h ∈ e.2.hold?, (s.contexts.get h.lane).holdRef = some ⟨e.2.ticket, e.1⟩

/-- An arm command for a lane is in flight. -/
def State.armInFlight (s : State) (n : Lane) : Bool :=
  s.commands.any fun c => decide (c = .arm n .IN) || decide (c = .arm n .OUT)

/-- The direction of the hold that a lane's context names. -/
def State.heldDirection (s : State) (n : Lane) : Option Side := (s.heldAt n).map fun x => x.2.2.direction

/-- A lane unit's state, hold and completion agree (R90, R118), and its arm timer and overdue mark with them
(R120, R125). -/
abbrev LaneUnit.HoldOk (lu : LaneUnit) : Prop :=
  match lu.state with
  | .armed =>
    lu.hold ≠ none ∧ lu.completion = none ∧ lu.overdue = false ∧
      ∃ k ∈ lu.armTimer, k ≤ Config.maxWindow * Config.ticksPerSecond
  | .turning =>
    lu.hold ≠ none ∧ lu.completion = none ∧ (lu.armTimer = none ↔ lu.overdue = true) ∧
      ∀ k ∈ lu.armTimer, k ≤ Config.maxWindow * Config.ticksPerSecond
  | .closed => lu.hold = none ∧ lu.completion = none ∧ lu.armTimer = none
  | _ => (lu.hold ≠ none ↔ lu.completion ≠ none) ∧ lu.armTimer = none

/-- The lane's two halves of a hold agree: the context names a record exactly while the lane unit has its hold
or the arm command is in flight, in the hold's direction (R90, R91); a lane with a hold is not OFF (R131). -/
abbrev State.LaneBond (s : State) (n : Lane) : Prop :=
  ((s.lanes.get n).hold ≠ none → (s.lanes.get n).hold = s.heldDirection n) ∧
  (s.armInFlight n = true → (s.lanes.get n).hold = none ∧ (s.contexts.get n).holdRef ≠ none) ∧
  ((s.contexts.get n).holdRef ≠ none →
    (s.lanes.get n).role ≠ .off ∧ ((s.lanes.get n).hold ≠ none ∨ s.armInFlight n = true))

/-- Every lane unit's hold is consistent in itself and with the Decision Engine's half. -/
abbrev State.LanesOk (s : State) : Prop := ∀ n : Lane, (s.lanes.get n).HoldOk ∧ s.LaneBond n

/-- The command in flight, at most one, fits its lane: an arm command carries the hold's direction, a withdraw
command finds the lane unit's hold (R91, R92, R107). -/
abbrev State.CommandsOk (s : State) : Prop :=
  s.commands.length ≤ 1 ∧ (s.chosen ≠ none → s.commands = []) ∧
    ∀ c ∈ s.commands,
      match c with
      | .arm n d => s.heldDirection n = some d
      | .withdraw n => (s.lanes.get n).hold ≠ none

/-- The rotor's count: A between −95 and +95 (R115); the counted flag set whenever |A| is at or above the live
commit threshold (R116); d·A at least 1 in TURNING (R120). -/
abbrev LaneUnit.RotorOk (lu : LaneUnit) : Prop :=
  -95 ≤ lu.accumulator ∧ lu.accumulator ≤ 95 ∧
    ((lu.live.threshold : Int) ≤ |lu.accumulator| → lu.counted = true) ∧
    (lu.state = .turning → ∀ d ∈ lu.hold, 1 ≤ d.sign * lu.accumulator)

/-- Settings in range: window 1..60, threshold 48..90 (R130, R131). -/
abbrev Settings.Ok (c : Settings) : Prop :=
  Config.minWindow ≤ c.window ∧ c.window ≤ Config.maxWindow ∧
    Config.minThreshold ≤ c.threshold ∧ c.threshold ≤ Config.maxThreshold

/-- Every lane unit's rotor and settings are in range. -/
abbrev State.RotorsOk (s : State) : Prop :=
  ∀ n : Lane, (s.lanes.get n).RotorOk ∧ (s.lanes.get n).live.Ok ∧ (s.lanes.get n).preload.Ok

/-- The gate is in EVAC exactly while the accepted EVAC level is asserted, and then every lane is FREE; else no
lane is FREE, and a lane is CLOSED exactly while its role is OFF (R118, R169). -/
abbrev State.GateOk (s : State) : Prop :=
  (s.gc.gate = .evac ↔ s.gc.accepted = true) ∧
    ∀ n : Lane,
      (s.gc.gate = .evac ↔ (s.lanes.get n).state = .free) ∧
      (s.gc.gate ≠ .evac → ((s.lanes.get n).state = .closed ↔ (s.lanes.get n).role = .off))

/-- The lock outputs follow the table of R126, or both follow the EVAC pin while RST is asserted (R126). -/
abbrev State.LocksOk (s : State) : Prop :=
  ∀ n : Lane,
    if s.rstAsserted then
      (s.lanes.get n).lockIn = s.evacPin ∧ (s.lanes.get n).lockOut = s.evacPin
    else
      (s.lanes.get n).lockIn = (s.lanes.get n).lockInLevel ∧
        (s.lanes.get n).lockOut = (s.lanes.get n).lockOutLevel

/-- The record-bearing kinds (R154). -/
def Kind.recordBearing : Kind → Bool
  | .admission => true
  | .exit => true
  | .double => true
  | .conflict => true
  | .snapshot => true
  | _ => false

/-- An entry carries the record fields exactly when its kind is record-bearing, and never names HELD (R154). -/
abbrev Entry.Ok (e : Entry) : Prop :=
  e.fields.isSome = e.kind.recordBearing ∧ ∀ f ∈ e.fields, f.stateAfter ≠ .held

/-- Sequence numbers rise by one from head to tail, and the tail's is one below the next (R157). -/
def consecutive (next : BitVec 16) : List Entry → Bool
  | [] => true
  | e :: rest => decide (e.sequence + BitVec.ofNat 16 (rest.length + 1) = next) && consecutive next rest

/-- The journal: at most 1,024 entries, numbered consecutively, each well made (R153, R154, R157). -/
abbrev State.JournalOk (s : State) : Prop :=
  s.journal.length ≤ Config.journalCapacity ∧ consecutive s.nextSeq s.journal = true ∧
    ∀ e ∈ s.journal, e.Ok

/-- The output lines: ATTN at its condition (R166), READY asserted while the reply slot is FULL (R192). -/
abbrev State.LinesOk (s : State) : Prop :=
  s.attn = s.attnCondition ∧ ∀ n : Lane, (s.ports.get n).ready = (s.ports.get n).reply.isSome

/-- The counts within the bounds the spec gives them (R43, R71, R123, R165, R175, R179). -/
abbrev State.CountsOk (s : State) : Prop :=
  (1 ≤ s.watermark ∧ s.watermark ≤ Config.journalCapacity) ∧
  (Config.minLinkTimeout ≤ s.gc.linkTimeout ∧ s.gc.linkTimeout ≤ 255) ∧
  s.gc.events.length ≤ Config.gateEventCapacity ∧
  (∀ c : ClassNo, (s.classes.get c).cooldown ≤ Config.maxCooldown) ∧
  ∀ n : Lane,
    (s.lanes.get n).forcedReports ≤ Config.forcedLimit ∧
      (s.contexts.get n).forcedSincePoll ≤ Config.forcedLimit

/-- A request slot holds a request in service. -/
def RequestSlot.isInService : RequestSlot → Bool
  | .inService _ => true
  | _ => false

/-- The uplink slot holds a request in service. -/
def UplinkSlot.isInService : UplinkSlot → Bool
  | .inService _ => true
  | _ => false

/-- The uplink slot holds a request whose reply waits or is being sent. -/
def UplinkSlot.isReplying : UplinkSlot → Bool
  | .replying _ => true
  | _ => false

/-- What the chosen item names is there to be served, and only a chosen request is IN_SERVICE (R60, R188,
R199). -/
abbrev State.ServiceOk (s : State) : Prop :=
  (match s.chosen with
    | some (.completion n) => (s.lanes.get n).completion ≠ none
    | some (.forcedReport n) => 0 < (s.lanes.get n).forcedReports
    | some .gateEvent => s.gc.events ≠ []
    | some .backfill => s.journalHasRoom = true ∧ 0 < s.pendingCount
    | _ => True) ∧
  (∀ n : Lane, (s.ports.get n).request.isInService = true ↔ s.chosen = some (.laneRequest n)) ∧
  (s.uplink.slot.isInService = true ↔ s.chosen = some .uplinkRequest)

/-- The reply buffer: at most 7 BUSY replies, and the slot's reply exactly while the slot is REPLYING (R199,
R201); a RESTART served stops the services, and its warm reset is due once its reply is sent (R205). -/
abbrev State.UplinkOk (s : State) : Prop :=
  (s.uplink.replies.filter fun q => q.status = .busy).length ≤ Config.busyCapacity ∧
  (s.uplink.replies.filter fun q => q.status ≠ .busy).length
    = bitValue s.uplink.slot.isReplying ∧
  (s.restarting = true → s.chosen = none ∧ (s.uplink.slot.isReplying = true ∨ s.warmResetDue = true)) ∧
  (s.warmResetDue = true → s.restarting = true)

/-- The safe states: every condition above. -/
structure State.Inv (s : State) : Prop where
  table : s.TableOk
  records : s.RecordsOk
  pendingReports : s.PendingOk
  reserved : s.ReservedOk
  bond : s.BondOk
  lanes : s.LanesOk
  commands : s.CommandsOk
  rotors : s.RotorsOk
  gate : s.GateOk
  locks : s.LocksOk
  journal : s.JournalOk
  lines : s.LinesOk
  counts : s.CountsOk
  service : s.ServiceOk
  uplink : s.UplinkOk

/-! ### The terms that statements use -/

/-- The Decision Engine is about to take the chosen item: RST is deasserted and no RESTART has been served (R60,
R180, R205). -/
abbrev State.Takes (s : State) (item : Service) : Prop :=
  s.rstAsserted = false ∧ s.restarting = false ∧ s.chosen = some item

/-- The Decision Engine is about to take an uplink request with a type byte and a payload (R199). -/
abbrev State.TakesUplink (s : State) (type : Byte) (payload : List Byte) : Prop :=
  s.Takes .uplinkRequest ∧ s.uplink.slot = .inService ⟨type, payload⟩

/-- The Decision Engine is about to take a lane's request (R188). -/
abbrev State.TakesLane (s : State) (n : Lane) (q : LaneRequest) : Prop :=
  s.Takes (.laneRequest n) ∧ (s.ports.get n).request = .inService q

/-- The end of an uplink service, from the state its work left: the reply stands last in the buffer, echoing the
type, the slot is REPLYING, and the turn marker is LANE (R65, R199, R200). -/
def State.replied (s : State) (type : Byte) (payload : List Byte) (st : Status) (reply : List Byte) : State :=
  { s with
    uplink :=
      { s.uplink with
        slot := .replying ⟨type, payload⟩
        replies := s.uplink.replies ++ [⟨type, st, reply⟩] }
    chosen := none
    turn := .lane }

/-- The end of a lane request's service, from the state its work left: the reply fills the reply slot with the port's
overrun marker copied into its lane status block, the marker is cleared, READY is asserted, a transfer in progress holds
that a newer reply has been placed, the request slot is EMPTY, the pointer stands at the next lane and the turn marker
is UPLINK (R64, R65, R86, R188, R191, R192). -/
def State.repliedLane (s : State) (n : Lane) (r : LaneReply) : State :=
  { s with
    ports :=
      s.ports.set n
        { request := .empty
          reply := some
            (match r with
            | .verdict v => .verdict { v with block := { v.block with overrun := (s.ports.get n).overrun } }
            | .cancel done block => .cancel done { block with overrun := (s.ports.get n).overrun }
            | .poll block => .poll { block with overrun := (s.ports.get n).overrun }
            | .badFrame _ => .badFrame (s.ports.get n).overrun)
          overrun := false
          ready := true
          transfer :=
            match (s.ports.get n).transfer with
            | .active noted _ => .active noted true
            | .ignored => .ignored
            | .none => .none }
    chosen := none
    pointer := n + 1
    turn := .uplink }

/-- Nothing waits to be taken that an earlier step made due: no complete frame in the receiver, no arm timer at 0, no
timeout of the link monitor, no change of EVAC (notes/assumptions/2.md, 4.md). -/
abbrev State.NothingDue (s : State) : Prop :=
  s.uplink.receiver.complete? = none ∧ (∀ n : Lane, (s.lanes.get n).armTimer ≠ some 0) ∧
    s.gc.timeoutDue = false ∧ s.gc.evacDue = false

/-- The commands that take what ticks made due, in the order in which the next tick takes it. -/
def dueCommands : List Instr :=
  (lanesAscending.map .armTimerExpiry) ++ [.linkMonitorTimeout, .evacAssertion, .evacRelease]

/-- Commands run one after another, stopping where one stops. -/
def runCommands : List Instr → State → Host.Outcome State Fault Refusal
  | [], s => .next s
  | c :: rest, s =>
    match exec c s with
    | .next t => runCommands rest t
    | .fault f => .fault f
    | .refused r => .refused r

/-- The commands that are services of the Decision Engine or its arbiter's choice (R59, R60). -/
def serviceCommands : List Instr :=
  [.commitCompletion, .expiryCompletion, .withdrawnCompletion, .forcedReportService, .gateEventService,
    .backfillStep, .presentCode, .presentCard, .cancel, .poll, .unknownRequest, .loadTicket, .dropTicket,
    .clearTable, .queryTicket, .setClass, .setZone, .setClock, .readClock, .noteAdmit, .noteExit, .revoke,
    .takeJournal, .setWatermark, .openGate, .closeGate, .setIdentity, .setLinkTimeout, .setLane, .readTallies,
    .status, .restart, .serviceArbiterChoice]

/-- The gate events after one is raised: behind those held, unless 4 are held (R175). -/
def eventsAfter (held : List GateEvent) (e : GateEvent) : List GateEvent :=
  if held.length < 4 then held ++ [e] else held

/-- The direction of the step that a new pair is at a lane, REVERSED applied; none for a phase error and for the
reference pair itself (R113, R128). -/
def LaneUnit.direction? (lu : LaneUnit) (pair : EncoderPair) : Option Side :=
  (decodeStep lu.reference pair).map lu.applyReversed

/-- LOCKINn in a lane state, under a hold's direction, by the table of R126. -/
def LaneState.releasesIn (st : LaneState) (hold : Option Side) : Bool :=
  match st with
  | .free => true
  | .armed => hold == some .IN
  | .turning => hold == some .IN
  | .locked => false
  | .closed => false

/-- LOCKOUTn in a lane state, under a role and a hold's direction, by the table of R126. -/
def LaneState.releasesOut (st : LaneState) (role : Role) (hold : Option Side) : Bool :=
  match st with
  | .free => true
  | .armed => hold == some .OUT
  | .turning => hold == some .OUT
  | .locked => role == .freeExit
  | .closed => false

/-- A lane unit with the lock outputs of a lane state, its role and its hold, by the table of R126. -/
def LaneUnit.inState (lu : LaneUnit) (st : LaneState) : LaneUnit :=
  { lu with state := st, lockIn := st.releasesIn lu.hold, lockOut := st.releasesOut lu.role lu.hold }

/-- A lane unit whose hold has ended: hold and completion gone, and the preload live if A is 0 (R96, R130). -/
def LaneUnit.released (lu : LaneUnit) : LaneUnit :=
  { lu with
    hold := none, completion := none, live := if lu.accumulator = 0 then lu.preload else lu.live }

/-- A lane context whose hold has ended, with the outcome and the ticket number recorded (R96). -/
def LaneContext.ended (c : LaneContext) (howEnded : HoldEnd) (ticket : Ticket) : LaneContext :=
  { c with holdRef := none, lastOutcome := some ⟨howEnded, ticket⟩ }

/-- The credential of a presentation that the Decision Engine is about to take with the command of its row (R3). -/
abbrev State.Presents (s : State) (c : Instr) (n : Lane) (cred : Credential) : Prop :=
  (c = .presentCode ∧ ∃ side text, s.TakesLane n (.code side text) ∧
    cred = normalizeCode s.gc.eventCode side text) ∨
  (c = .presentCard ∧ ∃ side uid payload, s.TakesLane n (.card side uid payload) ∧
    cred = normalizeCard s.gc.eventCode side uid payload)

/-- The journal and the owing of reports after one record-bearing entry about the record in a slot: with room the
entry is appended under the next sequence number and nothing is owed anew; without room nothing is appended and the
record owes a report (R157, R159, R161). -/
abbrev State.Reports (s t : State) (slot : Nat) (kind : Kind) (source : Source) (time : VenueTime)
    (zone : ZoneNo) (owed : Bool) : Prop :=
  if s.journal.length < 1024 then
    (∀ r ∈ t.table.get? slot,
      t.journal = s.journal ++ [⟨s.nextSeq, kind, source, time,
        some ⟨r.ticket, r.cls, zone, r.reportedState, r.entries⟩⟩]) ∧
      t.nextSeq = s.nextSeq + 1 ∧ t.pendingCount = s.pendingCount
  else
    t.journal = s.journal ∧ t.nextSeq = s.nextSeq ∧
      t.pendingCount = if owed then s.pendingCount else s.pendingCount + 1

/-- The changes of a non-commit end at a given time, of the hold `h` of the record `r` in a slot (R96, R97, R101):
the record's state, entries used, last passage and report owed; the reserved place; the CONFLICT entry; the lane
context; and everything the end does not touch. -/
structure State.EndsWithoutPassage (s t : State) (n : Lane) (slot : Nat) (r : Record) (h : Hold)
    (howEnded : HoldEnd) : Prop where
  record : ∃ q, t.table.get? slot = some q ∧
    q = { r with
      state := q.state, entries := q.entries, lastPassage := q.lastPassage, pendingReport := q.pendingReport }
  state : ∀ q ∈ t.table.get? slot,
    q.state =
      if h.revokeMark then .revoked
      else
        match h.direction, h.remoteMark with
        | .IN, none => h.prior.state
        | .IN, some _ => .inside
        | .OUT, _ => .inside
  passage : ∀ q ∈ t.table.get? slot,
    match h.direction, h.remoteMark, h.revokeMark with
    | .IN, some m, false =>
      q.entries.val = min (r.entries.val + 1) 15 ∧ q.lastPassage = some ⟨m.time, .gate m.gate⟩
    | _, _, _ => q.entries = r.entries ∧ q.lastPassage = r.lastPassage
  others : ∀ k, k ≠ slot → t.table.get? k = s.table.get? k
  zones : ∀ z, t.zones.get z =
    if h.reservedZone = some z then
      { s.zones.get z with reserved := (s.zones.get z).reserved - 1 }
    else s.zones.get z
  report :
    match h.direction, h.remoteMark with
    | .IN, some _ =>
      s.Reports t slot .conflict (.lane h.lane) s.clock.time
          (h.reservedZone.getD (s.classes.get r.cls).zone) r.pendingReport ∧
        ∀ q ∈ t.table.get? slot, q.pendingReport = (r.pendingReport || decide (1024 ≤ s.journal.length))
    | _, _ =>
      t.journal = s.journal ∧ t.nextSeq = s.nextSeq ∧ t.pendingCount = s.pendingCount ∧
        ∀ q ∈ t.table.get? slot, q.pendingReport = r.pendingReport
  contexts : t.contexts = s.contexts.set n ((s.contexts.get n).ended howEnded r.ticket)

/-! ### The holds that a warm reset reports -/

/-- The entry holds that carry a remote mark, with their slots and records, in ascending order of the holding lane:
a warm reset calls for a CONFLICT entry of each (R40, R97, R105). -/
def State.markedHolds (s : State) : List (Nat × Record × Hold) :=
  lanesAscending.flatMap fun n => s.table.filterMap fun e =>
    match e.2.hold? with
    | some h =>
      if h.lane = n ∧ h.direction = .IN ∧ h.remoteMark ≠ none then some (e.1, e.2, h) else none
    | none => none

/-- The CONFLICT entry of a marked hold that a warm reset ends, under a sequence number (R40, R97). -/
def State.conflictEntry (s : State) (sequence : BitVec 16) (r : Record) (h : Hold) : Entry :=
  { sequence := sequence, kind := .conflict, source := .lane h.lane, time := s.clock.time
    fields := some
      { ticket := r.ticket, cls := r.cls, zone := h.reservedZone.getD (s.classes.get r.cls).zone
        stateAfter := if h.revokeMark then .revoked else .inside
        entries := if h.revokeMark then r.entries else raiseEntries r.entries } }

/-! ### Frames as their senders make them -/

/-- The bits of bytes, most significant first, as a lane link carries them (R183). -/
def bitsOfBytes (l : List Byte) : List Bool :=
  l.flatMap fun b => [bitAt b 7, bitAt b 6, bitAt b 5, bitAt b 4, bitAt b 3, bitAt b 2, bitAt b 1, bitAt b 0]

/-- The type byte and payload of a lane request (R186). -/
def LaneRequest.content : LaneRequest → List Byte
  | .code side text => 0x41 :: side.code :: text
  | .card side uid payload => 0x42 :: side.code :: byteOf uid.length :: (uid ++ payload)
  | .cancel => [0x43]
  | .poll => [0x44]

/-- A lane request's frame: length byte, content, check byte (R184, R185). -/
def LaneRequest.frame (q : LaneRequest) : List Byte :=
  let body := byteOf (q.content.length + 1) :: q.content
  body ++ [checkByte body]

/-- An uplink request's frame: start byte, length, type, payload, check byte (R197). -/
def UplinkRequest.frame (r : UplinkRequest) : List Byte :=
  let body := 0xA5 :: bytes16 r.payload.length ++ [r.type] ++ r.payload
  body ++ [checkByte body]

end Sys2Proof.Machine
end

