-- ==== Sys2Proof/Certificates/Slice0/Obligations.lean ====
section
/-! DEFINITION. The statements for the provers. OBLIGATIONS.json lists them with the rules they rest on. Words used
throughout: "answers t" is `exec c s = .next t`; an equation `t = { s with … }` is also the frame, for every part of
the state that it does not name is unchanged. -/

open Sys2Proof Sys2Proof.Machine

/-! ### The queue -/

/-- A step takes the command at the front of the queue and runs it with the queue's rest. On an empty queue the
block idles, which is the model's choice (notes/assumptions/8.md). -/
def Obligations.StepTakesTheFrontCommand : Prop :=
  (∀ (c : Instr) (rest : List Instr) (s : State),
    step { s with pending := c :: rest } = exec c { s with pending := rest }) ∧
  ∀ s : State, s.pending = [] → step s = .next s

/-- Every command answers a next state: none faults and none is refused. No command reads or writes the queue. Two
clauses are the model's choice: that a command whose step does not arise in a state answers a next state as well
(notes/assumptions/1.md), and the queue (notes/assumptions/9.md). -/
def Obligations.EveryCommandCompletes : Prop :=
  ∀ (c : Instr) (s : State), ∃ t, exec c s = .next t ∧ t.pending = s.pending ∧
    ∀ q : List Instr, exec c { s with pending := q } = .next { t with pending := q }

/-! ### Resets -/

/-- The machine right after power-on meets every condition of the invariant, from any levels of the pins; and the
reset state is the one of a power-on with EVAC and every select line deasserted, straps low and encoder pairs
(0, 0), levels that notes/assumptions/6.md chooses. -/
def Obligations.PowerOnMeetsTheInvariant : Prop :=
  State.reset.Inv ∧
  (∀ (pins : PowerPins) (s t : State), exec (.powerOnReset pins) s = .next t → t.Inv) ∧
  exec (.powerOnReset ⟨false, ⟨false, false⟩, .replicate 6 ⟨false, false⟩, .replicate 6 false⟩) State.reset
    = .next State.reset

/-- POWER_ON_RESET, from any state: the value of every part of the state. The queue stays with its sender. That RST
is deasserted afterwards is the model's choice (notes/assumptions/19.md); that EVAC_BEGIN is held under an asserted EVAC
pin follows R181, where R67 says that no gate event is held (notes/assumptions/23.md). -/
def Obligations.PowerOnResetValues : Prop :=
  ∀ (pins : PowerPins) (s : State), ∃ t, exec (.powerOnReset pins) s = .next t ∧
    t.table = [] ∧ t.pendingCount = 0 ∧
    (∀ c : ClassNo, t.classes.get c =
      { windowOpen := 0, windowClose := 0, windowless := false, limit := 0, cooldown := 0, zone := 0,
        laneMask := 0, cardOnly := false, bind := false, offlineOk := false }) ∧
    (∀ z : ZoneNo, t.zones.get z = ⟨0, 0, 0⟩) ∧
    t.clock = ⟨⟨0, 0⟩, false⟩ ∧
    (∀ n : Lane, t.contexts.get n = ⟨none, none, 0⟩) ∧
    t.pointer = 0 ∧ t.turn = .lane ∧ t.chosen = none ∧ t.restarting = false ∧ t.commands = [] ∧
    (∀ n : Lane, t.lanes.get n =
      { role := .off, state := if pins.evac then .free else .closed, hold := none, completion := none,
        accumulator := 0, counted := false, reference := pins.encoders.get n, armTimer := none,
        overdue := false, live := ⟨8, 72, false⟩, preload := ⟨8, 72, false⟩, forcedReports := 0,
        tallies := ⟨0, 0, 0, 0, 0, 0⟩, lockIn := pins.evac, lockOut := pins.evac }) ∧
    t.journal = [] ∧ t.nextSeq = 0 ∧ t.watermark = 64 ∧ t.attn = false ∧
    t.gc =
      { gate := if pins.evac then .evac else .closed, accepted := pins.evac, previousSample := pins.evac,
        evacDue := false, gateId := 0, eventCode := ⟨0, 0⟩, link := .offline, monitorCount := 0,
        timeoutDue := false, linkTimeout := 10, events := if pins.evac then [.evacBegin] else [],
        resetCause := .power } ∧
    (∀ n : Lane, t.ports.get n =
      { request := .empty, reply := none, overrun := false, ready := false,
        transfer := if pins.selected.get n then .ignored else .none }) ∧
    t.uplink = { slot := .empty, replies := [], receiver := .hunt, straps := pins.straps } ∧
    t.evacPin = pins.evac ∧ t.rstAsserted = false ∧ t.warmResetDue = false ∧ t.pending = s.pending

/-- WARM_RESET completes when RST has been asserted, and when the RESTART reply has been sent and nothing is due: what
is kept, what is cleared, and how every hold ends. Every HELD record is ended by `Record.afterNonCommit`. The entry
holds with a remote mark, in ascending order of the holding lane, get their CONFLICT entries at the journal's tail
under the next sequence numbers, as many as have room; each of the others leaves its record owing a report, counted
once. That a request IN_SERVICE is discarded without a reply is the model's choice (notes/assumptions/21.md); that the
warm reset of a RESTART waits for this command is read from the spec (notes/assumptions/15.md). Where something is still
due at the reset of a RESTART, a complete frame or what ticks made due, it is taken first, as its own commands take it:
that it waits, and the order, are the model's (notes/assumptions/2.md, 4.md). -/
def Obligations.WarmResetKeepsAndClears : Prop :=
  (∀ (pins : WarmPins) (s t : State), s.rstAsserted = false → s.warmResetDue = true →
    runCommands (.uplinkFrameArrival :: dueCommands) s = .next t →
    exec (.warmReset pins) s = exec (.warmReset pins) t ∧ t.warmResetDue = true ∧ t.NothingDue ∧
      t.table = s.table) ∧
  ∀ (pins : WarmPins) (s : State) (reported owing : List (Nat × Record × Hold)), s.table.wf = true →
    (s.rstAsserted = true ∨ (s.warmResetDue = true ∧ s.NothingDue)) →
    reported = s.markedHolds.take (1024 - s.journal.length) →
    owing = s.markedHolds.drop (1024 - s.journal.length) →
    ∃ t, exec (.warmReset pins) s = .next t ∧
      t.classes = s.classes ∧ t.clock = s.clock ∧ t.watermark = s.watermark ∧ t.evacPin = s.evacPin ∧
      t.pending = s.pending ∧ t.rstAsserted = false ∧ t.warmResetDue = false ∧ t.restarting = false ∧
      t.chosen = none ∧ t.commands = [] ∧ t.pointer = 0 ∧ t.turn = .lane ∧
      (∀ z : ZoneNo, t.zones.get z = { s.zones.get z with reserved := 0 }) ∧
      (∀ n : Lane, t.contexts.get n = ⟨none, none, 0⟩) ∧
      (∀ n : Lane, ∃ lu, s.lanes.get n = lu ∧ t.lanes.get n =
        { role := lu.role
          state := if s.evacPin then .free else if lu.role = .off then .closed else .locked
          hold := none, completion := none, accumulator := 0, counted := false
          reference := pins.encoders.get n, armTimer := none, overdue := false
          live := lu.preload, preload := lu.preload, forcedReports := 0, tallies := lu.tallies
          lockIn := s.evacPin
          lockOut := s.evacPin || lu.role == .freeExit }) ∧
      (∀ n : Lane, (t.ports.get n).request = .empty ∧ (t.ports.get n).reply = none ∧
        (t.ports.get n).overrun = false ∧ (t.ports.get n).ready = false ∧
        (t.ports.get n).transfer = if (s.ports.get n).transfer = .none then .none else .ignored) ∧
      t.uplink = { slot := .empty, replies := [], receiver := .hunt, straps := pins.straps } ∧
      (∀ slot r, s.table.get? slot = some r → t.table.get? slot = some
        (match r.hold? with
        | none => r
        | some h =>
          { r.afterNonCommit h with pendingReport := r.pendingReport || owing.any fun x => x.1 = slot })) ∧
      (∀ slot, s.table.get? slot = none → t.table.get? slot = none) ∧
      t.journal = s.journal ++ reported.mapIdx (fun i x =>
        s.conflictEntry (s.nextSeq + BitVec.ofNat 16 i) x.2.1 x.2.2) ∧
      t.nextSeq = s.nextSeq + BitVec.ofNat 16 reported.length ∧
      t.pendingCount = s.pendingCount + (owing.filter fun x => x.2.1.pendingReport = false).length ∧
      t.attn = decide (s.watermark ≤ t.journal.length ∨ 0 < t.pendingCount) ∧
      t.gc =
        { gate := if s.evacPin then .evac else .closed, accepted := s.evacPin, previousSample := s.evacPin,
          evacDue := false, gateId := s.gc.gateId, eventCode := s.gc.eventCode, link := .offline,
          monitorCount := 0, timeoutDue := false, linkTimeout := s.gc.linkTimeout,
          events :=
            (let changed :=
              if s.evacPin = true ∧ s.gc.gate ≠ .evac then eventsAfter s.gc.events .evacBegin
              else if s.evacPin = false ∧ s.gc.gate = .evac then eventsAfter s.gc.events .evacEnd
              else s.gc.events
            if s.gc.link = .online then eventsAfter changed .linkLost else changed)
          resetCause := .warm }

/-- RST_ASSERTION, at a part where nothing is due, and EVAC_PIN_CHANGE: the held part's lock outputs follow the EVAC
pin, and everything else stays. At a part where a complete frame waits or ticks made something due, RST_ASSERTION first
takes that, as its own commands take it: that it waits, and the order, are the model's (notes/assumptions/2.md, 4.md).
That EVAC_PIN_CHANGE also comes while RST is deasserted, and then changes the pin
alone, is the model's choice (notes/assumptions/7.md). -/
def Obligations.ResetAndEvacPinsDriveTheLocks : Prop :=
  (∀ s : State, s.rstAsserted = false → s.NothingDue →
    ∃ t, exec .rstAssertion s = .next t ∧
      t = { s with
        lanes := t.lanes, rstAsserted := true, uplink := { s.uplink with receiver := .hunt } } ∧
      ∀ n : Lane, t.lanes.get n = { s.lanes.get n with lockIn := s.evacPin, lockOut := s.evacPin }) ∧
  (∀ s t : State, s.rstAsserted = false → runCommands (.uplinkFrameArrival :: dueCommands) s = .next t →
    exec .rstAssertion s = exec .rstAssertion t ∧ t.rstAsserted = false ∧ t.NothingDue) ∧
  (∀ (level : Bool) (s : State), s.rstAsserted = true →
    ∃ t, exec (.evacPinChange level) s = .next t ∧
      t = { s with lanes := t.lanes, evacPin := level } ∧
      ∀ n : Lane, t.lanes.get n = { s.lanes.get n with lockIn := level, lockOut := level }) ∧
  ∀ (level : Bool) (s : State), s.rstAsserted = false →
    exec (.evacPinChange level) s = .next { s with evacPin := level }

/-- From a RESTART service until the warm reset no service is taken. While RST is asserted the part is held: the
commands of the Decision Engine, the lane units, the Gate Controller and the Uplink Port change nothing, the tick
moves the Venue Clock alone, and a transfer moves its port's transfer alone. -/
def Obligations.HeldPartTakesNoStep : Prop :=
  (∀ s : State, s.restarting = true → ∀ c ∈ serviceCommands, exec c s = .next s) ∧
  ∀ s : State, s.rstAsserted = true →
    (∀ c ∈ serviceCommands, exec c s = .next s) ∧
    (∀ (n : Lane) (pair : EncoderPair),
      exec (.encoderEvent n pair) s = .next s ∧ exec (.armTimerExpiry n) s = .next s) ∧
    (∀ c ∈ [Instr.rstAssertion, .evacAssertion, .evacRelease, .linkMonitorTimeout, .armCommand,
      .withdrawCommand, .uplinkFrameArrival, .interByteGap, .replySent], exec c s = .next s) ∧
    (∀ ch : Character, exec (.characterReceived ch) s = .next s) ∧
    (∃ t, exec .venueClockTick s = .next t ∧ t = { s with clock := t.clock } ∧
      t.clock.valid = s.clock.valid) ∧
    ∀ (n : Lane) (bits : List Bool),
      (∃ t tr, exec (.transferBegin n) s = .next t ∧
        t = { s with ports := s.ports.set n { s.ports.get n with transfer := tr } }) ∧
      exec (.transferEnd n bits) s
        = .next { s with ports := s.ports.set n { s.ports.get n with transfer := .none } }

/-- What an earlier tick made due and no command has taken is what the next tick takes first, as the due commands
would one after another. The order among them is the model's choice (notes/assumptions/2.md). -/
def Obligations.TickTakesWhatIsDueFirst : Prop :=
  ∀ s t : State, s.rstAsserted = false → runCommands dueCommands s = .next t →
    exec .venueClockTick s = exec .venueClockTick t ∧
      (∀ n : Lane, (t.lanes.get n).armTimer ≠ some 0) ∧ t.gc.timeoutDue = false ∧ t.gc.evacDue = false

/-! ### Invariants that every step keeps -/

/-- Every step keeps the whole invariant. -/
def Obligations.StepKeepsTheInvariant : Prop :=
  ∀ s t : State, s.Inv → step s = .next t → t.Inv

/-- Every step keeps the Admission Table in its canonical form, with no ticket number twice and every check digit
correct, and the pending count equal to the number of records that owe a report. -/
def Obligations.StepKeepsTheTable : Prop :=
  ∀ s t : State, s.TableOk → s.PendingOk → step s = .next t → t.TableOk ∧ t.PendingOk

/-- Every step keeps every record consistent: entries used with the state or the prior state, the hold's fields with
its direction, the binding's length, the source's gate id. -/
def Obligations.StepKeepsRecordsConsistent : Prop :=
  ∀ s t : State, s.RecordsOk → step s = .next t → t.RecordsOk

/-- Every step keeps every zone's reserved count equal to the number of holds reserved against the zone. -/
def Obligations.StepKeepsReservedCounts : Prop :=
  ∀ s t : State, s.TableOk → s.RecordsOk → s.ReservedOk → step s = .next t → t.ReservedOk

/-- Every step keeps the bond between held records, lane contexts, lane units and the commands in flight. -/
def Obligations.StepKeepsTheHoldBond : Prop :=
  ∀ s t : State, s.Inv → step s = .next t → t.BondOk ∧ t.LanesOk ∧ t.CommandsOk

/-- Every step keeps each accumulator between −95 and +95, the counted flag set beyond the live threshold, d·A at
least 1 in TURNING and the settings in range; the gate state, the accepted EVAC level and the lane states in agreement;
and the lock outputs at the table of R126 or, while RST is asserted, at the EVAC pin. -/
def Obligations.StepKeepsLaneUnitsAndGate : Prop :=
  ∀ s t : State, s.Inv → step s = .next t → t.RotorsOk ∧ t.GateOk ∧ t.LocksOk

/-- Every step keeps the journal within 1,024 entries, numbered consecutively and well made; and it changes the
journal only by removing entries at the head (TAKE_JOURNAL, power-on reset) and appending at the tail, each append
raising the next sequence number. -/
def Obligations.StepKeepsTheJournal : Prop :=
  ∀ s t : State, s.JournalOk → step s = .next t →
    t.JournalOk ∧
    (∀ c rest, s.pending = c :: rest → (∀ pins, c ≠ .powerOnReset pins) →
      ∃ k added, t.journal = s.journal.drop k ++ added ∧
        t.nextSeq = s.nextSeq + BitVec.ofNat 16 added.length ∧
        (c ≠ .takeJournal → k = 0) ∧ ((∀ pins, c ≠ .warmReset pins) → added.length ≤ 1))

/-- Every step keeps ATTN at its condition and each READY asserted exactly while its reply slot is FULL, and keeps
the counts within their bounds. -/
def Obligations.StepKeepsLinesAndCounts : Prop :=
  ∀ s t : State, step s = .next t → (s.LinesOk → t.LinesOk) ∧ (s.CountsOk → t.CountsOk)

/-- Every step keeps the chosen item there to be served, with only a chosen request IN_SERVICE, and keeps the reply
buffer to the slot's one reply and at most 7 BUSY replies. -/
def Obligations.StepKeepsServiceAndSlot : Prop :=
  ∀ s t : State, s.ServiceOk → s.UplinkOk → step s = .next t → t.ServiceOk ∧ t.UplinkOk

/-! ### Rules over all commands -/

/-- The reset cause is POWER after a power-on reset and WARM after every warm reset, no other command writes it, and
STATUS reports it in byte 0 of its reply. -/
def Obligations.ResetCauseRecordsTheLastReset : Prop :=
  (∀ (pins : PowerPins) (s t : State), exec (.powerOnReset pins) s = .next t → t.gc.resetCause = .power) ∧
  (∀ (pins : WarmPins) (s t : State), (s.rstAsserted = true ∨ s.warmResetDue = true) →
    exec (.warmReset pins) s = .next t → t.gc.resetCause = .warm) ∧
  (∀ (c : Instr) (s t : State), (∀ pins, c ≠ .powerOnReset pins) → (∀ pins, c ≠ .warmReset pins) →
    exec c s = .next t → t.gc.resetCause = s.gc.resetCause) ∧
  ∀ s t : State, s.TakesUplink 0x70 [] → exec .status s = .next t →
    ∃ rest, t.uplink.replies = s.uplink.replies ++ [⟨0x70, .ok, rest⟩] ∧
      rest.head? = some (match s.gc.resetCause with | .power => (0x01 : Byte) | .warm => 0x02)

/-- Only its own request, or a power-on reset, changes a class, a zone's capacity, the identity, the link timeout,
the watermark, a lane's preload or the Venue Clock's valid flag; and only SET_CLOCK, the tick and power-on change the
clock. A lane's role changes by SET_LANE and power-on alone. -/
def Obligations.SettingsHaveOneWriter : Prop :=
  ∀ (c : Instr) (s t : State), (∀ pins, c ≠ .powerOnReset pins) → exec c s = .next t →
    (c ≠ .setClass → t.classes = s.classes) ∧
    (c ≠ .setZone → ∀ z : ZoneNo, (t.zones.get z).capacity = (s.zones.get z).capacity) ∧
    (c ≠ .setIdentity → t.gc.gateId = s.gc.gateId ∧ t.gc.eventCode = s.gc.eventCode) ∧
    (c ≠ .setLinkTimeout → t.gc.linkTimeout = s.gc.linkTimeout) ∧
    (c ≠ .setWatermark → t.watermark = s.watermark) ∧
    (c ≠ .setLane → ∀ n : Lane,
      (t.lanes.get n).preload = (s.lanes.get n).preload ∧ (t.lanes.get n).role = (s.lanes.get n).role) ∧
    (c ≠ .setClock → t.clock.valid = s.clock.valid ∧ (c ≠ .venueClockTick → t.clock = s.clock)) ∧
    (s.clock.valid = true → t.clock.valid = true)

/-- A record stays in its slot, with its ticket number, until DROP_TICKET, CLEAR_TABLE or a power-on reset; only
LOAD_TICKET changes its class; its entries used never fall but by LOAD_TICKET; and a REVOKED record stays REVOKED
but for LOAD_TICKET. -/
def Obligations.RecordsStayInTheirSlots : Prop :=
  ∀ (c : Instr) (s t : State) (slot : Nat) (r : Record), s.TableOk → (∀ pins, c ≠ .powerOnReset pins) →
    c ≠ .dropTicket → c ≠ .clearTable → exec c s = .next t → s.table.get? slot = some r →
    ∃ q, t.table.get? slot = some q ∧ q.ticket = r.ticket ∧
      (c ≠ .loadTicket → q.cls = r.cls ∧ r.entries ≤ q.entries ∧ (r.state = .revoked → q.state = .revoked) ∧
        (r.binding ≠ none → q.binding = r.binding))

/-! ### The rotor -/

/-- Encoder pairs: the sixteen entries of the decoding table, the phase error that a change of both inputs is, and no
event for the reference pair itself. -/
def Obligations.EncoderPairsDecode : Prop :=
  (∀ a b a' b' : Bool, decodeStep ⟨a, b⟩ ⟨a', b'⟩ =
    match a, b, a', b' with
    | false, false, false, true => some .IN
    | false, false, true, false => some .OUT
    | false, true, true, true => some .IN
    | false, true, false, false => some .OUT
    | true, true, true, false => some .IN
    | true, true, false, true => some .OUT
    | true, false, false, false => some .IN
    | true, false, true, true => some .OUT
    | _, _, _, _ => none) ∧
  (∀ (n : Lane) (s : State), exec (.encoderEvent n (s.lanes.get n).reference) s = .next s) ∧
  (∀ (lu : LaneUnit) (pair : EncoderPair), lu.direction? pair =
    if lu.live.reversed then (decodeStep lu.reference pair).map Side.opposite
    else decodeStep lu.reference pair) ∧
  ∀ (n : Lane) (pair : EncoderPair) (s : State) (lu : LaneUnit), s.rstAsserted = false →
    s.lanes.get n = lu → pair.a ≠ lu.reference.a → pair.b ≠ lu.reference.b →
    exec (.encoderEvent n pair) s = .next (s.setLane n
      { lu with reference := pair, tallies := { lu.tallies with phase := lu.tallies.phase + 1 } })

/-- A step adds its sign to the accumulator, and a count of +96 or −96 is a new rest, 0, which clears the counted
flag; the preload becomes live at A = 0 when nothing is held; role, hold, preload and every other lane stay. In CLOSED,
LOCKED and FREE a step that is no passage, and in ARMED a step forward that leaves d·A below 8 and a step back that
is no passage, changes A, the counted flag where A becomes 0, the reference and that preload, and nothing else. -/
def Obligations.StepMovesTheRotor : Prop :=
  ∀ (n : Lane) (pair : EncoderPair) (s : State) (lu : LaneUnit) (e : Side), s.rstAsserted = false →
    s.lanes.get n = lu → lu.live.Ok → lu.direction? pair = some e →
    ∃ q, exec (.encoderEvent n pair) s = .next (s.setLane n q) ∧
      q.accumulator =
        (if lu.accumulator + e.sign = 96 ∨ lu.accumulator + e.sign = -96 then 0
        else lu.accumulator + e.sign) ∧
      (q.accumulator = 0 → q.counted = false) ∧ q.reference = pair ∧
      q.role = lu.role ∧ q.hold = lu.hold ∧ q.preload = lu.preload ∧
      q.live =
        (if q.accumulator = 0 ∧ lu.hold = none ∧ (s.contexts.get n).holdRef = none then lu.preload
        else lu.live) ∧
      (((lu.state = .closed ∨ lu.state = .locked ∨ lu.state = .free) ∧
          ¬(lu.counted = false ∧ e.sign * (lu.accumulator + e.sign) = lu.live.threshold) ∨
        lu.state = .armed ∧ lu.hold = some e ∧ e.sign * q.accumulator < 8 ∨
        lu.state = .armed ∧ lu.hold = some e.opposite ∧
          ¬(lu.counted = false ∧ e.sign * (lu.accumulator + e.sign) = lu.live.threshold)) →
        q = { lu with
          accumulator := q.accumulator, counted := lu.counted && decide (q.accumulator ≠ 0), reference := pair
          live := q.live })

/-- A free passage: FREE rises by 1, the counted flag is set, and nothing else changes but the rotor's count. An
encoder event that changes FREE is such a passage: the counted flag was clear, the step brought e·A to the live
commit threshold, and the lane was FREE, or LOCKED under FREE_EXIT and the step in the exit direction. -/
def Obligations.FreePassageCountsAlone : Prop :=
  (∀ (n : Lane) (pair : EncoderPair) (s : State) (lu : LaneUnit) (e : Side), s.rstAsserted = false →
    s.lanes.get n = lu → lu.live.Ok → lu.direction? pair = some e →
    (lu.state = .free ∨ (lu.state = .locked ∧ lu.role = .freeExit ∧ e = .OUT)) →
    lu.counted = false → e.sign * (lu.accumulator + e.sign) = lu.live.threshold →
    exec (.encoderEvent n pair) s = .next (s.setLane n
      { lu with
        accumulator := lu.accumulator + e.sign, counted := true, reference := pair
        tallies := { lu.tallies with free := lu.tallies.free + 1 } })) ∧
  ∀ (n : Lane) (pair : EncoderPair) (s t : State), exec (.encoderEvent n pair) s = .next t →
    (t.lanes.get n).tallies.free ≠ (s.lanes.get n).tallies.free →
    ∃ (lu : LaneUnit) (e : Side), s.lanes.get n = lu ∧ s.rstAsserted = false ∧ lu.direction? pair = some e ∧
      lu.counted = false ∧ e.sign * (lu.accumulator + e.sign) = lu.live.threshold ∧
      (lu.state = .free ∨ (lu.state = .locked ∧ lu.role = .freeExit ∧ e = .OUT)) ∧
      (t.lanes.get n).tallies.free = lu.tallies.free + 1

/-- A forced passage, in CLOSED, in LOCKED where the passage is not free, and in ARMED against the hold's direction:
FORCED rises by 1, the forced report count by 1 up to 255, the counted flag is set, and nothing else changes but the
rotor's count. -/
def Obligations.ForcedPassageRaisesAReport : Prop :=
  ∀ (n : Lane) (pair : EncoderPair) (s : State) (lu : LaneUnit) (e : Side), s.rstAsserted = false →
    s.lanes.get n = lu → lu.live.Ok → lu.direction? pair = some e →
    (lu.state = .closed ∨ (lu.state = .locked ∧ ¬(lu.role = .freeExit ∧ e = .OUT)) ∨
      (lu.state = .armed ∧ lu.hold = some e.opposite)) →
    lu.counted = false → e.sign * (lu.accumulator + e.sign) = lu.live.threshold →
    exec (.encoderEvent n pair) s = .next (s.setLane n
      { lu with
        accumulator := lu.accumulator + e.sign, counted := true, reference := pair
        forcedReports := min (lu.forcedReports + 1) 255
        tallies := { lu.tallies with forced := lu.tallies.forced + 1 } })

/-- The commit, at the step that brings d·A to the live commit threshold with the counted flag clear, from TURNING
or, armed one count short, from ARMED: relock, timer and overdue mark off, capture, counted flag, commit completion,
tally, LOCKED. -/
def Obligations.CommitAtTheThreshold : Prop :=
  ∀ (n : Lane) (pair : EncoderPair) (s : State) (lu : LaneUnit) (d : Side), s.rstAsserted = false →
    s.lanes.get n = lu → lu.live.Ok → lu.direction? pair = some d →
    (lu.state = .turning ∨ lu.state = .armed) → lu.hold = some d → lu.completion = none →
    lu.counted = false → d.sign * (lu.accumulator + d.sign) = lu.live.threshold →
    exec (.encoderEvent n pair) s = .next (s.setLane n
      ({ lu with
        accumulator := lu.accumulator + d.sign, counted := true, reference := pair
        armTimer := none, overdue := false, completion := some (.commit s.clock.time)
        tallies :=
          match d with
          | .IN => { lu.tallies with admits := lu.tallies.admits + 1 }
          | .OUT => { lu.tallies with exits := lu.tallies.exits + 1 } }.inState .locked))

/-- The start of a turn and its back-out: ARMED goes TURNING at a step forward that leaves d·A at 8 or above without
a commit, and counts a shorter step forward alone; TURNING counts every step that leaves d·A at 1 or above without a
commit, and returns to ARMED at d·A = 0, by stepping back or by the re-zero, or relocks with an expiry when the
overdue mark is set. That this relock leaves the mark set is read from the spec (notes/assumptions/12.md). -/
def Obligations.TurnStartsAndBacksOut : Prop :=
  ∀ (n : Lane) (pair : EncoderPair) (s : State) (lu : LaneUnit) (d e : Side), s.rstAsserted = false →
    s.lanes.get n = lu → lu.live.Ok → lu.direction? pair = some e → lu.hold = some d →
    (lu.state = .armed → e = d → 8 ≤ d.sign * (lu.accumulator + e.sign) →
      d.sign * (lu.accumulator + e.sign) ≤ 95 →
      ¬(lu.counted = false ∧ d.sign * (lu.accumulator + e.sign) = lu.live.threshold) →
      exec (.encoderEvent n pair) s = .next (s.setLane n
        ({ lu with accumulator := lu.accumulator + e.sign, reference := pair }.inState .turning))) ∧
    (lu.state = .armed → e = d → 1 ≤ d.sign * (lu.accumulator + e.sign) →
      d.sign * (lu.accumulator + e.sign) ≤ 7 →
      exec (.encoderEvent n pair) s = .next (s.setLane n
        { lu with accumulator := lu.accumulator + e.sign, reference := pair })) ∧
    (lu.state = .turning → (e ≠ d ∧ lu.accumulator = d.sign ∨ e = d ∧ lu.accumulator = 95 * d.sign) →
      exec (.encoderEvent n pair) s = .next (s.setLane n
        (if lu.overdue then
          { lu with
            accumulator := 0, counted := false, reference := pair, armTimer := none
            completion := lu.completion.or (some .expiry) }.inState .locked
        else { lu with accumulator := 0, counted := false, reference := pair }.inState .armed))) ∧
    (lu.state = .turning → 1 ≤ d.sign * (lu.accumulator + e.sign) →
      d.sign * (lu.accumulator + e.sign) ≤ 95 →
      ¬(e = d ∧ lu.counted = false ∧ d.sign * (lu.accumulator + e.sign) = lu.live.threshold) →
      exec (.encoderEvent n pair) s = .next (s.setLane n
        { lu with accumulator := lu.accumulator + e.sign, reference := pair }))

/-! ### The commands and timers of a lane unit -/

/-- ARM_TIMER_EXPIRY, due at a count of 0: an ARMED lane relocks and raises an expiry, a TURNING lane becomes overdue
with its lock still released; a lane whose timer has not run out takes none. LINK_MONITOR_TIMEOUT, when a tick has
brought the count to the timeout: OFFLINE, LINK_LOST raised, the count stopped where it is. That an expiry and a
timeout stay due until these commands, and that a command that is not due changes nothing, is the model's choice
(notes/assumptions/2.md, 1.md); that the count keeps its value is read from the spec (notes/assumptions/13.md). -/
def Obligations.TimersRunOut : Prop :=
  (∀ s : State, s.rstAsserted = false → s.gc.timeoutDue = true →
    exec .linkMonitorTimeout s = .next
      { s with gc := { s.gc with
        link := .offline, timeoutDue := false, events := eventsAfter s.gc.events .linkLost } }) ∧
  ∀ (n : Lane) (s : State) (lu : LaneUnit), s.rstAsserted = false → s.lanes.get n = lu →
    (lu.armTimer ≠ some 0 → exec (.armTimerExpiry n) s = .next s) ∧
    (lu.armTimer = some 0 → lu.state = .armed → lu.completion = none →
      exec (.armTimerExpiry n) s = .next (s.setLane n
        ({ lu with armTimer := none, completion := some .expiry }.inState .locked))) ∧
    (lu.armTimer = some 0 → lu.state = .turning →
      exec (.armTimerExpiry n) s = .next (s.setLane n { lu with armTimer := none, overdue := true }))

/-- ARM_COMMAND and WITHDRAW_COMMAND, each with the oldest command in flight: arming a LOCKED lane, beginning and
withdrawing the hold at a FREE lane, the overdue mark cleared in both, relocking an ARMED lane, and a withdraw ignored
in every other state. That the arm command clears the mark at a FREE lane too is read from the spec
(notes/assumptions/12.md); that a withdraw acts by the lane state alone, whatever the hold, is the model's choice
(notes/assumptions/11.md). -/
def Obligations.LaneCommandsActByLaneState : Prop :=
  ∀ (n : Lane) (s : State) (lu : LaneUnit) (rest : List LaneCommand), s.rstAsserted = false →
    s.lanes.get n = lu →
    (∀ d : Side, s.commands = .arm n d :: rest → lu.state = .locked →
      exec .armCommand s = .next ({ s with commands := rest }.setLane n
        ({ lu with
          hold := some d, armTimer := some (lu.live.window * 256), overdue := false }.inState .armed))) ∧
    (∀ d : Side, s.commands = .arm n d :: rest → lu.state = .free → lu.completion = none →
      exec .armCommand s = .next ({ s with commands := rest }.setLane n
        { lu with hold := some d, overdue := false, completion := some .withdrawn })) ∧
    (s.commands = .withdraw n :: rest → lu.state = .armed → lu.completion = none →
      exec .withdrawCommand s = .next ({ s with commands := rest }.setLane n
        ({ lu with armTimer := none, completion := some .withdrawn }.inState .locked))) ∧
    (s.commands = .withdraw n :: rest → lu.state ≠ .armed →
      exec .withdrawCommand s = .next { s with commands := rest })

/-! ### The Gate Controller and the tick -/

/-- EVAC_ASSERTION and EVAC_RELEASE, when the filter has agreed on the change: the gate state, the accepted level,
the gate event, and what FREE and unFREE do at every lane. That FREE clears the overdue mark at CLOSED, LOCKED and FREE
lanes too is read from the spec (notes/assumptions/12.md). -/
def Obligations.EvacFreesAndReleasesTheLanes : Prop :=
  (∀ s : State, s.rstAsserted = false → s.gc.evacDue = true → s.gc.accepted = false →
    ∃ t, exec .evacAssertion s = .next t ∧
      t = { s with
        lanes := t.lanes
        gc := { s.gc with
          gate := .evac, accepted := true, evacDue := false,
          events := eventsAfter s.gc.events .evacBegin } } ∧
      ∀ n : Lane, ∃ lu, s.lanes.get n = lu ∧ t.lanes.get n =
        if lu.state = .armed ∨ lu.state = .turning then
          { lu with
            armTimer := none, overdue := false
            completion := lu.completion.or (some .withdrawn) }.inState .free
        else { lu with overdue := false }.inState .free) ∧
  ∀ s : State, s.rstAsserted = false → s.gc.evacDue = true → s.gc.accepted = true →
    ∃ t, exec .evacRelease s = .next t ∧
      t = { s with
        lanes := t.lanes
        gc := { s.gc with
          gate := .closed, accepted := false, evacDue := false,
          events := eventsAfter s.gc.events .evacEnd } } ∧
      ∀ n : Lane, ∃ lu, s.lanes.get n = lu ∧ t.lanes.get n =
        if lu.state = .free then lu.inState (if lu.role = .off then .closed else .locked) else lu

/-- VENUE_CLOCK_TICK at a running part where nothing is due: the clock counts 1/256 s and wraps at the top, running
arm timers fall by 1, the link monitor counts while ONLINE and finds its timeout due, and the EVAC filter takes its
sample and finds a change due at the second opposite one. While RST is asserted the clock counts the same, alone. That
the tick leaves an expiry, a timeout and a change of EVAC due, and their own commands take them, is the model's choice
(notes/assumptions/2.md). -/
def Obligations.TickCountsEverything : Prop :=
  (∀ s : State, s.rstAsserted = true →
    ∃ t, exec .venueClockTick s = .next t ∧ t = { s with clock := t.clock } ∧ t.clock.valid = s.clock.valid ∧
      t.clock.time.seconds.toNat * 256 + t.clock.time.fraction.toNat
        = (s.clock.time.seconds.toNat * 256 + s.clock.time.fraction.toNat + 1) % 1099511627776) ∧
  ∀ s : State, s.rstAsserted = false → s.NothingDue →
    ∃ t, exec .venueClockTick s = .next t ∧
      t = { s with clock := t.clock, lanes := t.lanes, gc := t.gc } ∧
      t.clock.valid = s.clock.valid ∧
      t.clock.time.seconds.toNat * 256 + t.clock.time.fraction.toNat
        = (s.clock.time.seconds.toNat * 256 + s.clock.time.fraction.toNat + 1) % 1099511627776 ∧
      (∀ n : Lane, t.lanes.get n =
        { s.lanes.get n with armTimer := (s.lanes.get n).armTimer.map fun k => k - 1 }) ∧
      t.gc = { s.gc with
        previousSample := s.evacPin
        evacDue := s.evacPin != s.gc.accepted && s.gc.previousSample != s.gc.accepted
        monitorCount := if s.gc.link = .online then s.gc.monitorCount + 1 else s.gc.monitorCount
        timeoutDue := decide (s.gc.link = .online ∧ s.gc.linkTimeout * 256 ≤ s.gc.monitorCount + 1) }

/-! ### The Service Arbiter and the services without a request -/

/-- SERVICE_ARBITER_CHOICE, with no command in flight: the first class with an item waiting, completions and forced
reports by lowest lane, then gate events, then requests by pointer and turn marker, then backfill; nothing waiting,
nothing chosen. A command still in flight is taken first, as its own row takes it. -/
def Obligations.ArbiterChoosesByClass : Prop :=
  ∀ s : State, s.rstAsserted = false → s.restarting = false → s.chosen = none →
    (s.commands = [] →
      (∀ n : Lane, (s.lanes.get n).completion ≠ none → (∀ m < n, (s.lanes.get m).completion = none) →
        exec .serviceArbiterChoice s = .next { s with chosen := some (.completion n) }) ∧
      ((∀ m : Lane, (s.lanes.get m).completion = none) →
        (∀ n : Lane, 0 < (s.lanes.get n).forcedReports → (∀ m < n, (s.lanes.get m).forcedReports = 0) →
          exec .serviceArbiterChoice s = .next { s with chosen := some (.forcedReport n) }) ∧
        ((∀ m : Lane, (s.lanes.get m).forcedReports = 0) →
          (s.gc.events ≠ [] →
            exec .serviceArbiterChoice s = .next { s with chosen := some .gateEvent }) ∧
          (s.gc.events = [] →
            (∀ (k : Fin 6) (n : Lane) (q : LaneRequest), n = s.pointer + k →
              (s.ports.get n).request = .waiting q →
              (∀ j < k, (s.ports.get (s.pointer + j)).request.isWaiting = false) →
              (s.turn = .lane ∨ s.uplink.slot.isWaiting = false) →
              exec .serviceArbiterChoice s = .next
                { s with
                  chosen := some (.laneRequest n)
                  ports := s.ports.set n { s.ports.get n with request := .inService q } }) ∧
            (∀ r : UplinkRequest, s.uplink.slot = .waiting r →
              (s.turn = .uplink ∨ ∀ n : Lane, (s.ports.get n).request.isWaiting = false) →
              exec .serviceArbiterChoice s = .next
                { s with
                  chosen := some .uplinkRequest, uplink := { s.uplink with slot := .inService r } }) ∧
            ((∀ n : Lane, (s.ports.get n).request.isWaiting = false) → s.uplink.slot.isWaiting = false →
              exec .serviceArbiterChoice s = .next
                (if s.journal.length < 1024 ∧ 0 < s.pendingCount then { s with chosen := some .backfill }
                else s)))))) ∧
    ∀ (n : Lane) (d : Side) (rest : List LaneCommand) (t : State),
      (s.commands = .arm n d :: rest → exec .armCommand s = .next t →
        exec .serviceArbiterChoice s = exec .serviceArbiterChoice t) ∧
      (s.commands = .withdraw n :: rest → exec .withdrawCommand s = .next t →
        exec .serviceArbiterChoice s = exec .serviceArbiterChoice t)

/-- FORCED_REPORT_SERVICE, GATE_EVENT_SERVICE and BACKFILL_STEP: the count, the event or the flag taken, and the
entry appended under the next sequence number, or dropped when the journal is full. -/
def Obligations.JournalServicesAppendOneEntry : Prop :=
  (∀ (n : Lane) (s : State), s.Takes (.forcedReport n) →
    ∃ t, exec .forcedReportService s = .next t ∧
      t = { s with
        lanes := s.lanes.set n
          { s.lanes.get n with forcedReports := (s.lanes.get n).forcedReports - 1 }
        contexts := s.contexts.set n
          { s.contexts.get n with
            forcedSincePoll := min ((s.contexts.get n).forcedSincePoll + 1) 255 }
        journal := t.journal, nextSeq := t.nextSeq, attn := t.attn, chosen := none } ∧
      (s.journal.length < 1024 →
        t.journal = s.journal ++ [⟨s.nextSeq, .forced, .lane n, s.clock.time, none⟩] ∧
        t.nextSeq = s.nextSeq + 1 ∧ t.attn = t.attnCondition) ∧
      (1024 ≤ s.journal.length →
        t.journal = s.journal ∧ t.nextSeq = s.nextSeq ∧ t.attn = s.attn)) ∧
  (∀ (e : GateEvent) (rest : List GateEvent) (s : State), s.Takes .gateEvent → s.gc.events = e :: rest →
    ∃ t, exec .gateEventService s = .next t ∧
      t = { s with
        gc := { s.gc with events := rest }
        journal := t.journal, nextSeq := t.nextSeq, attn := t.attn, chosen := none } ∧
      (s.journal.length < 1024 →
        t.journal = s.journal ++ [⟨s.nextSeq,
          match e with
          | .evacBegin => .evacBegin
          | .evacEnd => .evacEnd
          | .linkLost => .linkLost
          | .linkBack => .linkBack,
          .gate s.gc.gateId, s.clock.time, none⟩] ∧
        t.nextSeq = s.nextSeq + 1 ∧ t.attn = t.attnCondition) ∧
      (1024 ≤ s.journal.length →
        t.journal = s.journal ∧ t.nextSeq = s.nextSeq ∧ t.attn = s.attn)) ∧
  ∀ (slot : Nat) (r : Record) (s : State), s.Takes .backfill → s.table.wf = true →
    s.journal.length < 1024 → s.table.get? slot = some r → r.pendingReport = true →
    (∀ k < slot, ∀ q ∈ s.table.get? k, q.pendingReport = false) →
    ∃ t, exec .backfillStep s = .next t ∧
      t = { s with
        table := t.table, pendingCount := s.pendingCount - 1
        journal := s.journal ++ [⟨s.nextSeq, .snapshot, .gate s.gc.gateId, s.clock.time,
          some ⟨r.ticket, r.cls, (s.classes.get r.cls).zone, r.reportedState, r.entries⟩⟩]
        nextSeq := s.nextSeq + 1, attn := t.attnCondition, chosen := none } ∧
      t.table.get? slot = some { r with pendingReport := false } ∧
      ∀ k, k ≠ slot → t.table.get? k = s.table.get? k

/-! ### The ends of a hold -/

/-- COMMIT_COMPLETION of an entry hold: record, zone, journal, context and lane unit, and nothing else. -/
def Obligations.EntryCommitAdmits : Prop :=
  ∀ (n : Lane) (capture : VenueTime) (ref : HoldRef) (r : Record) (h : Hold) (z : ZoneNo) (s : State),
    s.Takes (.completion n) → (s.lanes.get n).completion = some (.commit capture) →
    (s.contexts.get n).holdRef = some ref → s.table.get? ref.slot = some r → r.state = .held h →
    h.direction = .IN → h.reservedZone = some z →
    ∃ (t : State) (q : Record), exec .commitCompletion s = .next t ∧ t.table.get? ref.slot = some q ∧
      t = { s with
        table := t.table, pendingCount := t.pendingCount
        zones := s.zones.set z
          { s.zones.get z with
            reserved := (s.zones.get z).reserved - 1
            occupancy := BitVec.ofNat 16 (min ((s.zones.get z).occupancy.toNat + 1) 65535) }
        contexts := s.contexts.set n ((s.contexts.get n).ended .committed r.ticket)
        lanes := s.lanes.set n (s.lanes.get n).released
        journal := t.journal, nextSeq := t.nextSeq, attn := t.attn, chosen := none } ∧
      (∀ k, k ≠ ref.slot → t.table.get? k = s.table.get? k) ∧
      q = { r with
        state := if h.revokeMark then .revoked else .inside
        entries := q.entries
        lastPassage := some ⟨capture, .lane h.lane⟩
        binding :=
          if r.binding = none ∧ (s.classes.get r.cls).bind = true then h.uid else r.binding
        pendingReport := r.pendingReport || decide (1024 ≤ s.journal.length) } ∧
      q.entries.val = min (r.entries.val + if h.remoteMark = none then 1 else 2) 15 ∧
      s.Reports t ref.slot (if h.remoteMark = none then .admission else .double) (.lane h.lane) capture z
        r.pendingReport

/-- COMMIT_COMPLETION of an exit hold: record, zone, journal, context and lane unit, and nothing else. -/
def Obligations.ExitCommitPassesOut : Prop :=
  ∀ (n : Lane) (capture : VenueTime) (ref : HoldRef) (r : Record) (h : Hold) (s : State) (c : ClassRecord),
    s.Takes (.completion n) → (s.lanes.get n).completion = some (.commit capture) →
    (s.contexts.get n).holdRef = some ref → s.table.get? ref.slot = some r → r.state = .held h →
    h.direction = .OUT → s.classes.get r.cls = c →
    ∃ (t : State) (q : Record), exec .commitCompletion s = .next t ∧ t.table.get? ref.slot = some q ∧
      t = { s with
        table := t.table, pendingCount := t.pendingCount
        zones := s.zones.set c.zone
          { s.zones.get c.zone with
            occupancy := BitVec.ofNat 16 ((s.zones.get c.zone).occupancy.toNat - 1) }
        contexts := s.contexts.set n ((s.contexts.get n).ended .committed r.ticket)
        lanes := s.lanes.set n (s.lanes.get n).released
        journal := t.journal, nextSeq := t.nextSeq, attn := t.attn, chosen := none } ∧
      (∀ k, k ≠ ref.slot → t.table.get? k = s.table.get? k) ∧
      q = { r with
        state :=
          if h.revokeMark then .revoked
          else if r.entries.val < c.limit.val then .outside
          else .spent
        lastPassage := some ⟨capture, .lane h.lane⟩
        pendingReport := r.pendingReport || decide (1024 ≤ s.journal.length) } ∧
      s.Reports t ref.slot .exit (.lane h.lane) capture c.zone r.pendingReport

/-- EXPIRY_COMPLETION and WITHDRAWN_COMPLETION end the lane's hold without a passage, as EXPIRED and WITHDRAWN, and
CANCEL at an ARMED lane relocks it and ends its hold CANCELLED, answered DONE. -/
def Obligations.HoldsEndWithoutPassage : Prop :=
  ∀ (n : Lane) (ref : HoldRef) (r : Record) (h : Hold) (s : State),
    (s.contexts.get n).holdRef = some ref → s.table.get? ref.slot = some r → r.state = .held h →
    (∀ (c : Instr) (how : HoldEnd), s.Takes (.completion n) →
      ((c = .expiryCompletion ∧ (s.lanes.get n).completion = some .expiry ∧ how = .expired) ∨
        (c = .withdrawnCompletion ∧ (s.lanes.get n).completion = some .withdrawn ∧ how = .withdrawn)) →
      ∃ t, exec c s = .next t ∧ s.EndsWithoutPassage t n ref.slot r h how ∧
        t = { s with
          table := t.table, pendingCount := t.pendingCount, zones := t.zones, contexts := t.contexts
          lanes := s.lanes.set n (s.lanes.get n).released
          journal := t.journal, nextSeq := t.nextSeq, attn := t.attn, chosen := none }) ∧
    (s.TakesLane n .cancel → (s.lanes.get n).state = .armed →
      ∃ u : State, s.EndsWithoutPassage u n ref.slot r h .cancelled ∧
        u = { s with
          table := u.table, pendingCount := u.pendingCount, zones := u.zones, contexts := u.contexts
          lanes := s.lanes.set n ({ s.lanes.get n with armTimer := none }.inState .locked).released
          journal := u.journal, nextSeq := u.nextSeq, attn := u.attn } ∧
        exec .cancel s = .next (u.repliedLane n (.cancel true
          { laneState := .locked, hold := none, lastOutcome := some ⟨.cancelled, r.ticket⟩
            forcedSincePoll := (s.contexts.get n).forcedSincePoll
            gate := s.gc.gate, link := s.gc.link, overrun := false })))

/-- CANCEL with no hold, or at a lane that is not ARMED, is answered NO_EFFECT; POLL reports the lane status block as
it stood and then clears the last hold outcome and the forced count. -/
def Obligations.PollReportsAndClears : Prop :=
  ∀ (n : Lane) (s : State) (block : StatusBlock),
    block =
      { laneState := (s.lanes.get n).state
        hold := (s.heldAt n).map fun x => (x.2.2.direction, x.2.1.ticket)
        lastOutcome := (s.contexts.get n).lastOutcome
        forcedSincePoll := (s.contexts.get n).forcedSincePoll
        gate := s.gc.gate, link := s.gc.link, overrun := false } →
    (s.TakesLane n .poll →
      exec .poll s = .next ({ s with
        contexts := s.contexts.set n
          { s.contexts.get n with lastOutcome := none, forcedSincePoll := 0 } }.repliedLane n (.poll block))) ∧
    (s.TakesLane n .cancel →
      ((s.contexts.get n).holdRef = none ∨ (s.lanes.get n).state ≠ .armed) →
      exec .cancel s = .next (s.repliedLane n (.cancel false block)))

/-! ### Presentations -/

/-- A credential's normalization: exactly eighteen digits by either form, the event code against the cluster's, the
check digit; and a form that fails carries neither event code, ticket number nor UID. -/
def Obligations.CredentialsNormalize : Prop :=
  (∀ (cluster : EventCode) (side : Side) (tens units : Digit) (t : Ticket) (uid : Uid),
    let outcome : CredentialOutcome :=
      if cluster = ⟨0, 0⟩ ∨ (⟨tens, units⟩ : EventCode) ≠ cluster then .wrongEvent
      else if (t[15].val + 3 * t[0].val + t[1].val + 3 * t[2].val + t[3].val + 3 * t[4].val + t[5].val
        + 3 * t[6].val + t[7].val + 3 * t[8].val + t[9].val + 3 * t[10].val + t[11].val + 3 * t[12].val
        + t[13].val + 3 * t[14].val) % 10 = 0 then .wellFormed
      else .badCheck
    normalizeCode cluster side ((tens :: units :: t.toList).map fun d => byteOf (0x30 + d.val))
      = ⟨.code, side, outcome, some ⟨tens, units⟩, some t, none⟩ ∧
    ((uid.length = 4 ∨ uid.length = 7 ∨ uid.length = 10) →
      normalizeCard cluster side uid (byteOf (16 * tens.val + units.val) :: ticketBytes t)
        = ⟨.card, side, outcome, some ⟨tens, units⟩, some t, some uid⟩)) ∧
  (∀ (cluster : EventCode) (side : Side) (text : List Byte),
    (text.length ≠ 18 ∨ ∃ b ∈ text, b.toNat < 0x30 ∨ 0x39 < b.toNat) →
    normalizeCode cluster side text = ⟨.code, side, .malformed, none, none, none⟩) ∧
  ∀ (cluster : EventCode) (side : Side) (uid : Uid) (payload : List Byte),
    (¬(uid.length = 4 ∨ uid.length = 7 ∨ uid.length = 10) ∨ payload.length ≠ 9 ∨
      ∃ b ∈ payload, 9 < b.toNat / 16 ∨ 9 < b.toNat % 16) →
    normalizeCard cluster side uid payload = ⟨.card, side, .malformed, none, none, none⟩

/-- Checks 1 to 8 of a presentation, in their order: gate, role, side, credential, the lane's own hold, the table. -/
def Obligations.LaneChecksInOrder : Prop :=
  ∀ (s : State) (n : Lane) (c : Credential) (role : Role), (s.lanes.get n).role = role →
    (s.gc.gate = .evac → s.decision n c = .refuse .emergency) ∧
    (s.gc.gate = .closed → s.decision n c = .refuse .gateClosed) ∧
    (s.gc.gate = .opened →
      (role = .off → s.decision n c = .refuse .laneClosed) ∧
      (((role = .entry ∧ c.side = .OUT) ∨ ((role = .exit ∨ role = .freeExit) ∧ c.side = .IN)) →
        s.decision n c = .refuse .wrongSide) ∧
      ((role = .dual ∨ (role = .entry ∧ c.side = .IN) ∨
          ((role = .exit ∨ role = .freeExit) ∧ c.side = .OUT)) →
        (c.outcome = .malformed → s.decision n c = .refuse .malformed) ∧
        (c.outcome = .wrongEvent → s.decision n c = .refuse .wrongEvent) ∧
        (c.outcome = .badCheck → s.decision n c = .refuse .badCheck) ∧
        (∀ t, c.outcome = .wellFormed → c.ticket = some t →
          (∀ slot r h ref, (s.contexts.get n).holdRef = some ref → s.heldAt n = some (slot, r, h) →
            s.decision n c =
              if t = ref.ticket ∧ c.side = h.direction then .repeatGrant r h
              else .refuse .laneOccupied) ∧
          ((s.contexts.get n).holdRef = none →
            (s.table.lookup t = none → s.decision n c = .refuse .unknown) ∧
            ∀ slot r, s.table.lookup t = some (slot, r) →
              s.decision n c =
                match checksOfRecord s n c r with
                | some v => .refuseRecord v r
                | none => .grant slot r))))

/-- Checks 9 to 17 of a found record, in their order, each by its own rule: state, limit, lane mask, card rules, and
for an entry the link, the window, the entries used, the cooldown and the zone's headroom. -/
def Obligations.RecordChecksInOrder : Prop :=
  ∀ (s : State) (n : Lane) (cred : Credential) (r : Record) (c : ClassRecord) (z : ZoneRecord) (now : Nat),
    s.classes.get r.cls = c → s.zones.get c.zone = z → s.clock.time.seconds.toNat = now →
    checksOfRecord s n cred r =
      match r.state, cred.side with
      | .held _, _ => some .heldElsewhere
      | .revoked, _ => some .revoked
      | .inside, .IN => some .alreadyInside
      | .spent, .IN => some .spent
      | .valid, .OUT => some .notInside
      | .outside, .OUT => some .notInside
      | .spent, .OUT => some .notInside
      | .inside, .OUT =>
        if c.limit = 0 then some .classBarred
        else if c.laneMask.getLsbD n.val = false then some .wrongLane
        else if cred.form = .card ∧ r.binding ≠ none ∧ r.binding ≠ cred.uid then some .cardMismatch
        else none
      | _, .IN =>
        if c.limit = 0 then some .classBarred
        else if c.laneMask.getLsbD n.val = false then some .wrongLane
        else if cred.form = .code ∧ (c.cardOnly = true ∨ r.binding ≠ none) then some .cardRequired
        else if cred.form = .card ∧ r.binding ≠ none ∧ r.binding ≠ cred.uid then some .cardMismatch
        else if s.gc.link = .offline ∧ c.offlineOk = false then some .offlineBarred
        else if c.windowless = false ∧ s.clock.valid = false then some .noTime
        else if c.windowless = false ∧ now < c.windowOpen.toNat then some .tooEarly
        else if c.windowless = false ∧ c.windowClose.toNat ≤ now then some .tooLate
        else if c.limit.val ≤ r.entries.val then some .spent
        else if r.state = .outside ∧ (∃ lp, r.lastPassage = some lp ∧
            (if s.clock.valid then now - lp.time.seconds.toNat else 0) < c.cooldown) then some .cooldown
        else if z.capacity.toNat ≤ z.occupancy.toNat + z.reserved then some .zoneFull
        else none

/-- PRESENT_CODE and PRESENT_CARD refused: the lane's REFUSALS tally rises by 1, the reply carries the verdict and
what was found, and nothing else changes. A repeat at the holding lane is answered GRANT with the marker and changes
nothing. -/
def Obligations.RefusalsAndRepeatsChangeNoRecord : Prop :=
  ∀ (c : Instr) (s : State) (n : Lane) (cred : Credential), s.Presents c n cred →
    (∀ (v : Verdict) (found : Option Record),
      ((s.decision n cred = .refuse v ∧ found = none) ∨
        ∃ r, s.decision n cred = .refuseRecord v r ∧ found = some r) →
      exec c s = .next ((s.setLane n
        { s.lanes.get n with
          tallies := { (s.lanes.get n).tallies with
            refusals := (s.lanes.get n).tallies.refusals + 1 } }).repliedLane n
        (.verdict
          { verdict := v, repeatMarker := false, ticket := cred.ticket
            classZone := found.map fun r => (r.cls, (s.classes.get r.cls).zone)
            figures := none, block := s.statusBlock n }))) ∧
    ∀ (r : Record) (h : Hold), s.decision n cred = .repeatGrant r h →
      exec c s = .next (s.repliedLane n
        (.verdict
          { verdict := .grant, repeatMarker := true, ticket := cred.ticket
            classZone := some (r.cls, h.reservedZone.getD (s.classes.get r.cls).zone)
            figures := some
              (match h.direction with
                | .IN => (s.classes.get r.cls).limit.val - r.entries.val - 1
                | .OUT => (s.classes.get r.cls).limit.val - r.entries.val,
                (s.lanes.get n).live.window)
            block := s.statusBlock n }))

/-- PRESENT_CODE and PRESENT_CARD granted: the record is HELD under the hold of the grant, the context names it, an
entry reserves a place, the arm command is sent, and the reply is GRANT; nothing else changes. -/
def Obligations.GrantsHoldTheRecord : Prop :=
  ∀ (c : Instr) (s : State) (n : Lane) (cred : Credential) (slot : Nat) (r : Record) (cls : ClassRecord),
    s.Presents c n cred → s.table.wf = true → s.decision n cred = .grant slot r →
    s.classes.get r.cls = cls →
    ∃ u : State, u = { s with
        table := u.table, zones := u.zones
        contexts := s.contexts.set n { s.contexts.get n with holdRef := some ⟨r.ticket, slot⟩ }
        commands := s.commands ++ [.arm n cred.side] } ∧
      u.table.get? slot = some
        { r with
          state := .held
            { lane := n, direction := cred.side
              prior :=
                match cred.side, r.state with
                | .OUT, _ => .inside
                | .IN, .outside => .outside
                | .IN, _ => .valid
              reservedZone := match cred.side with | .IN => some cls.zone | .OUT => none
              uid := cred.uid, grantTime := s.clock.time, remoteMark := none, revokeMark := false } } ∧
      (∀ k, k ≠ slot → u.table.get? k = s.table.get? k) ∧
      u.zones =
        (match cred.side with
        | .IN => s.zones.set cls.zone
            { s.zones.get cls.zone with reserved := (s.zones.get cls.zone).reserved + 1 }
        | .OUT => s.zones) ∧
      exec c s = .next (u.repliedLane n
        (.verdict
          { verdict := .grant, repeatMarker := false, ticket := cred.ticket
            classZone := some (r.cls, cls.zone)
            figures := some
              (match cred.side with
                | .IN => cls.limit.val - r.entries.val - 1
                | .OUT => cls.limit.val - r.entries.val,
                (s.lanes.get n).live.window)
            block := { s.statusBlock n with hold := some (cred.side, r.ticket) } }))

/-! ### Lane links -/

/-- TRANSFER_BEGIN notes the reply the slot holds, and a transfer begun while RST is asserted is ignored. At the end
of a transfer without a request, a reply noted at the start is read when all its bytes were clocked out and no newer
reply stands in the slot; a transfer that is ignored does nothing. A reply that a service places while a transfer is in
progress is not read at the transfer's end, whatever was noted and however many bytes were clocked: it stays in the
slot with READY asserted. -/
def Obligations.TransfersReadTheReply : Prop :=
  (∀ (n : Lane) (s : State) (r : LaneReply) (p : Port) (bits : List Bool) (noted : Option LaneReply)
      (overtaken : Bool), s.rstAsserted = false → (s.ports.get n).transfer = .active noted overtaken →
    ((bytesOfBits bits).head? = none ∨ (bytesOfBits bits).head? = some 0x00) →
    (s.repliedLane n r).ports.get n = p →
    p.transfer = .active noted true ∧ p.reply ≠ none ∧ p.ready = true ∧
      exec (.transferEnd n bits) (s.repliedLane n r) = .next { s.repliedLane n r with
        ports := (s.repliedLane n r).ports.set n { p with transfer := .none } }) ∧
  ∀ (n : Lane) (s : State) (p : Port), s.ports.get n = p →
    (p.transfer = .none →
      exec (.transferBegin n) s = .next { s with
        ports := s.ports.set n
          { p with transfer := if s.rstAsserted then .ignored else .active p.reply false } }) ∧
    (∀ bits : List Bool, p.transfer = .ignored →
      exec (.transferEnd n bits) s = .next { s with ports := s.ports.set n { p with transfer := .none } }) ∧
    ∀ (bits : List Bool) (noted : Option LaneReply) (overtaken : Bool), s.rstAsserted = false →
      p.transfer = .active noted overtaken →
      ((bytesOfBits bits).head? = none ∨ (bytesOfBits bits).head? = some 0x00) →
      exec (.transferEnd n bits) s = .next { s with
        ports := s.ports.set n
          (if ∃ r, noted = some r ∧ overtaken = false ∧ 8 * r.frame.length ≤ bits.length then
            { p with transfer := .none, reply := none, ready := false }
          else { p with transfer := .none }) }

/-- TRANSFER_END with a request's frame, filler after it and a partial byte: the read is settled first, a noted reply
read when all its bytes were clocked out and no newer one stands in the slot; then the request enters an EMPTY slot,
or is discarded with the overrun marker set. Every request of a length a frame can hold is understood from its frame.
In a transfer in progress LSOn sends the noted reply's bytes, most significant bit first, then filler, and filler
alone while RST is asserted; outside a transfer it is not driven. -/
def Obligations.LaneFramesAreUnderstood : Prop :=
  (∀ (q : LaneRequest) (filler : List Byte), q.content.length ≤ 47 →
    parseInbound (q.frame ++ filler) = .request q) ∧
  (∀ (bytes : List Byte) (partialByte : List Bool), partialByte.length < 8 →
    bytesOfBits (bitsOfBytes bytes ++ partialByte) = bytes) ∧
  (∀ (n : Lane) (s : State) (p settled : Port) (bits : List Bool) (q : LaneRequest) (noted : Option LaneReply)
      (overtaken : Bool), s.rstAsserted = false → s.ports.get n = p → p.transfer = .active noted overtaken →
    parseInbound (bytesOfBits bits) = .request q →
    (settled =
      if ∃ r, noted = some r ∧ overtaken = false ∧ 8 * r.frame.length ≤ bits.length then
        { p with transfer := .none, reply := none, ready := false }
      else { p with transfer := .none }) →
    exec (.transferEnd n bits) s = .next { s with
      ports := s.ports.set n
        (if p.request = .empty then { settled with request := .waiting q }
        else { settled with overrun := true }) }) ∧
  ∀ (n : Lane) (s : State) (i : Nat),
    ((s.ports.get n).transfer = .none → s.laneOutBit n i = none) ∧
    ∀ (noted : Option LaneReply) (overtaken : Bool) (sent : List Byte),
      (s.ports.get n).transfer = .active noted overtaken →
      sent = (match noted with | some r => r.frame | none => []) →
      s.laneOutBit n i = some (if s.rstAsserted then false else (bitsOfBytes sent).getD i false)

/-- TRANSFER_END with a bad frame: whichever of the faults it has, the port answers BAD_FRAME at once with the
overrun marker copied in, and touches nothing but its reply slot. -/
def Obligations.BadFramesAreAnswered : Prop :=
  (∀ (len : Byte) (rest : List Byte), len ≠ 0 →
    (len.toNat = 1 ∨ 48 < len.toNat ∨ rest.length < len.toNat ∨
      (len :: rest.take len.toNat).foldl (· + ·) 0 ≠ 0 ∨
      (∀ type ∈ rest.head?, type ∉ [(0x41 : Byte), 0x42, 0x43, 0x44]) ∨
      ((rest.head? = some 0x43 ∨ rest.head? = some 0x44) ∧ len.toNat ≠ 2) ∨
      (rest.head? = some 0x41 ∧ len.toNat < 3) ∨ (rest.head? = some 0x42 ∧ len.toNat < 4) ∨
      (rest.head? = some 0x42 ∧ len.toNat < (byteAt rest 2).toNat + 4) ∨
      ((rest.head? = some 0x41 ∨ rest.head? = some 0x42) ∧ byteAt rest 1 ≠ 0x01 ∧ byteAt rest 1 ≠ 0x02)) →
    parseInbound (len :: rest) = .badFrame) ∧
  ∀ (n : Lane) (s : State) (p : Port) (bits : List Bool), s.rstAsserted = false → s.ports.get n = p →
    (∃ noted overtaken, p.transfer = .active noted overtaken) →
    parseInbound (bytesOfBits bits) = .badFrame →
    exec (.transferEnd n bits) s = .next { s with
      ports := s.ports.set n
        { p with transfer := .none, reply := some (.badFrame p.overrun), overrun := false, ready := true } }

/-! ### The uplink -/

/-- CHARACTER_RECEIVED and INTER_BYTE_GAP at each receiver state, where no complete frame waits: the start byte, the
length, the bytes of the body, and the discards. Where a complete frame waits, CHARACTER_RECEIVED takes its arrival
first, and INTER_BYTE_GAP leaves it: that it waits is the model's (notes/assumptions/4.md). -/
def Obligations.ReceiverFollowsTheFrame : Prop :=
  (∀ (s t : State) (c : Character), s.rstAsserted = false → exec .uplinkFrameArrival s = .next t →
    exec (.characterReceived c) s = exec (.characterReceived c) t ∧ t.rstAsserted = false ∧
      t.uplink.receiver.complete? = none) ∧
  (∀ s : State, s.uplink.receiver.complete? ≠ none → exec .interByteGap s = .next s) ∧
  ∀ (s : State) (c : Character) (rx : Receiver), s.rstAsserted = false → s.uplink.receiver = rx →
    rx.complete? = none →
    (∃ after : Receiver,
      exec (.characterReceived c) s = .next { s with uplink := { s.uplink with receiver := after } } ∧
      ((onesOf c.data + bitValue c.parity) % 2 = 1 ∨ c.stop = false → after = .hunt) ∧
      ((onesOf c.data + bitValue c.parity) % 2 = 0 → c.stop = true →
        (rx = .hunt → after = if c.data = 0xA5 then .header [0xA5] else .hunt) ∧
        (∀ start, rx = .header [start] → after = .header [start, c.data]) ∧
        (∀ start high : Byte, rx = .header [start, high] →
          after =
            if 256 * high.toNat + c.data.toNat ≤ 1024 then
              .body (256 * high.toNat + c.data.toNat) [start, high, c.data]
            else .hunt) ∧
        ∀ length frame, rx = .body length frame → after = .body length (frame ++ [c.data]))) ∧
    exec .interByteGap s = .next { s with uplink := { s.uplink with receiver := .hunt } }

/-- UPLINK_FRAME_ARRIVAL of a complete frame: a sum of 0x00 restarts the link monitor, brings an OFFLINE link back
with LINK_BACK, and hands the request to an EMPTY slot or answers BUSY while fewer than 7 BUSY replies wait; any other
sum discards the frame. That a frame which arrives after the tick that made the timeout due, and before
LINK_MONITOR_TIMEOUT takes it, clears it with no LINK_LOST is the model's choice (notes/assumptions/2.md), as are that a
complete frame waits for this command (notes/assumptions/4.md), and that a BUSY reply being sent still counts among the
7 (notes/assumptions/5.md). -/
def Obligations.FrameArrivalFillsTheSlot : Prop :=
  ∀ (s : State) (length : Nat) (frame : List Byte), s.rstAsserted = false →
    s.uplink.receiver = .body length frame → frame.length = length + 5 →
    (frame.foldl (· + ·) 0 ≠ 0 →
      exec .uplinkFrameArrival s = .next { s with uplink := { s.uplink with receiver := .hunt } }) ∧
    (frame.foldl (· + ·) 0 = 0 →
      exec .uplinkFrameArrival s = .next
        { s with
          gc := { s.gc with
            monitorCount := 0, timeoutDue := false, link := .online
            events :=
              if s.gc.link = .offline then eventsAfter s.gc.events .linkBack else s.gc.events }
          uplink :=
            if s.uplink.slot = .empty then
              { s.uplink with
                receiver := .hunt
                slot := .waiting ⟨byteAt frame 3, (frame.drop 4).take length⟩ }
            else if (s.uplink.replies.filter fun r => r.status = .busy).length < 7 then
              { s.uplink with
                receiver := .hunt, replies := s.uplink.replies ++ [⟨byteAt frame 3, .busy, []⟩] }
            else { s.uplink with receiver := .hunt } })

/-- The characters of a request's frame, sent with even parity and good stop bits to a receiver in HUNT with an
EMPTY slot, and the arrival that follows, put exactly that request into the slot: every type, and every payload of
up to 1,024 bytes. What the part sends on UTXD is the same kind of characters, 11 bit times each, of the reply at the
buffer's head, and the idle level otherwise; a data bit of 1 at the stop level is presumed (notes/assumptions/22.md).
The sampled straps give the bit rate. -/
def Obligations.UplinkFramesAreUnderstood : Prop :=
  (∀ (r : UplinkRequest) (s : State), r.payload.length ≤ 1024 → s.rstAsserted = false →
    s.uplink.receiver = .hunt → s.uplink.slot = .empty →
    ∃ t, runCommands
        ((r.frame.map fun b => Instr.characterReceived (soundCharacter b)) ++ [.uplinkFrameArrival]) s
        = .next t ∧
      t = { s with gc := t.gc, uplink := { s.uplink with slot := .waiting r } } ∧
      t.gc.link = .online ∧ t.gc.monitorCount = 0) ∧
  (∀ b : Byte, (soundCharacter b).data = b ∧ sound (soundCharacter b) = true) ∧
  (∀ (s : State) (i : Nat), (s.rstAsserted = true ∨ s.warmResetDue = true ∨ s.uplink.replies = []) →
    s.utxd i = true) ∧
  (∀ (s : State) (r : UplinkReply) (rest : List UplinkReply), s.rstAsserted = false → s.warmResetDue = false →
    s.uplink.replies = r :: rest →
    (∀ i, 11 * r.frame.length ≤ i → s.utxd i = true) ∧
    ∀ k b, r.frame[k]? = some b →
      s.utxd (11 * k) = false ∧ (∀ i < 8, s.utxd (11 * k + 1 + i) = bitAt b i) ∧
        s.utxd (11 * k + 9) = decide (onesOf b % 2 = 1) ∧ s.utxd (11 * k + 10) = true) ∧
  ∀ u : UplinkPort, u.bitRate =
    match u.straps.brs1, u.straps.brs0 with
    | false, false => 115200
    | false, true => 230400
    | true, false => 460800
    | true, true => 921600

/-- REPLY_SENT: the oldest reply leaves the buffer; the slot's own reply empties the slot, and after a RESTART makes
the warm reset due. A BUSY reply leaves the slot as it is, which is the model's choice (notes/assumptions/5.md); that
the warm reset is due and not yet taken rests on notes/assumptions/15.md. -/
def Obligations.RepliesLeaveInOrder : Prop :=
  ∀ (s : State) (r : UplinkReply) (rest : List UplinkReply), s.rstAsserted = false →
    s.warmResetDue = false → s.uplink.replies = r :: rest →
    (r.status = .busy →
      exec .replySent s = .next { s with uplink := { s.uplink with replies := rest } }) ∧
    (r.status ≠ .busy →
      exec .replySent s = .next
        { s with
          uplink := { s.uplink with replies := rest, slot := .empty }, warmResetDue := s.restarting })

/-! ### The uplink requests -/

/-- Ticket numbers, record blocks and class records read back as they are written: the packed digits of every ticket
number, the block of every record that LOAD_TICKET may carry, and the payload of every class record with a cooldown
in range. The block of every record, HELD ones and ones that owe a report too, has its bytes. A journal entry has its
22 bytes and no two entries have the same; an uplink reply and a lane link reply have their framing, codes and lengths,
and the lane status block its 23 bytes. -/
def Obligations.LayoutsReadBack : Prop :=
  (∀ t : Ticket, (ticketBytes t).length = 8 ∧ ticketOfBytes? (ticketBytes t) = some t) ∧
  (∀ (b : List Byte) (t : Ticket), b.length = 8 → ticketOfBytes? b = some t → ticketBytes t = b) ∧
  (∀ r : Record, r.Ok → r.hold? = none → r.pendingReport = false →
    r.block.length = 30 ∧ badPresence .loadTicket r.block = false ∧ recordOf? r.ticket r.block = some r) ∧
  (∀ r : Record, (r.Ok → r.block.length = 30) ∧ ∃ presence : Byte,
    bitAt presence 0 = r.lastPassage.isSome ∧ bitAt presence 1 = r.binding.isSome ∧
    bitAt presence 2 = r.pendingReport ∧ (bitAt presence 3 = true ↔ ∃ h, r.state = .held h) ∧
    presence.toNat < 16 ∧
    r.block = ticketBytes r.ticket
      ++ [byteOf r.cls.val,
        match r.state with
        | .valid => (0x01 : Byte) | .held _ => 0x02 | .inside => 0x03 | .outside => 0x04 | .spent => 0x05
        | .revoked => 0x06,
        byteOf r.entries.val, presence]
      ++ (match r.lastPassage with
        | none => List.replicate 7 0x00
        | some lp =>
          bytes32 lp.time.seconds ++ lp.time.fraction ::
            match lp.source with | .lane n => [0x00, byteOf n.val] | .gate g => [0x01, byteOf g.val])
      ++ match r.binding with
        | none => List.replicate 11 0x00
        | some u => byteOf u.length :: u ++ List.replicate (10 - u.length) 0x00) ∧
  (∀ (c : ClassNo) (r : ClassRecord), r.cooldown ≤ 3600 →
    (classPayload c r).length = 15 ∧ classRecordOf? (classPayload c r) = some (c, r)) ∧
  (∀ e : Entry, e.bytes.length = 22 ∧ e.bytes =
    bytes16 e.sequence.toNat
      ++ [match e.kind with
        | .admission => (0x01 : Byte) | .exit => 0x02 | .double => 0x03 | .conflict => 0x04 | .snapshot => 0x05
        | .forced => 0x06 | .evacBegin => 0x07 | .evacEnd => 0x08 | .linkLost => 0x09 | .linkBack => 0x0A]
      ++ (match e.source with | .lane n => [0x00, byteOf n.val] | .gate g => [0x01, byteOf g.val])
      ++ bytes32 e.time.seconds ++ [e.time.fraction]
      ++ match e.fields with
        | none => List.replicate 12 0x00
        | some f =>
          ticketBytes f.ticket ++ [byteOf f.cls.val, byteOf f.zone.val,
            match f.stateAfter with
            | .valid => 0x01 | .held => 0x02 | .inside => 0x03 | .outside => 0x04 | .spent => 0x05
            | .revoked => 0x06,
            byteOf f.entries.val]) ∧
  (∀ e f : Entry, e.Ok → f.Ok → e.bytes = f.bytes → e = f) ∧
  (∀ r : UplinkReply, r.frame.foldl (· + ·) 0 = 0 ∧ ∃ check, r.frame =
    0xA5 :: bytes16 (r.payload.length + 1)
      ++ [r.type,
        match r.status with
        | .ok => (0x00 : Byte) | .busy => 0x01 | .badArg => 0x02 | .badRecord => 0x03 | .badCheck => 0x04
        | .notFound => 0x05 | .tableFull => 0x06 | .held => 0x07 | .pendingReport => 0x08
        | .holdsActive => 0x09 | .gateOpen => 0x0A | .evacActive => 0x0B | .holdActive => 0x0C
        | .echo => 0x0D | .notInside => 0x0E]
      ++ r.payload ++ [check]) ∧
  (∀ b : StatusBlock, b.bytes.length = 23 ∧ b.bytes =
    [match b.laneState with
      | .closed => (0x00 : Byte) | .locked => 0x01 | .armed => 0x02 | .turning => 0x03 | .free => 0x04]
      ++ (match b.hold with
        | none => List.replicate 9 0x00
        | some (.IN, t) => 0x01 :: ticketBytes t
        | some (.OUT, t) => 0x02 :: ticketBytes t)
      ++ (match b.lastOutcome with
        | none => List.replicate 9 0x00
        | some o =>
          (match o.howEnded with
            | .committed => 0x01 | .expired => 0x02 | .cancelled => 0x03 | .withdrawn => 0x04)
            :: ticketBytes o.ticket)
      ++ [byteOf b.forcedSincePoll,
        match b.gate with | .closed => 0x00 | .opened => 0x01 | .evac => 0x02,
        match b.link with | .offline => 0x00 | .online => 0x01,
        if b.overrun then 0x01 else 0x00]) ∧
  (∀ r : LaneReply, r.frame.foldl (· + ·) 0 = 0 ∧ ∃ check : Byte,
    match r with
    | .badFrame o => r.frame = [3, 0x2F, if o then 0x01 else 0x00, check]
    | .poll b => r.frame = 25 :: 0x22 :: b.bytes ++ [check]
    | .cancel done b => r.frame = 25 :: (if done then 0x20 else 0x21) :: b.bytes ++ [check]
    | .verdict v => ∃ presence : Byte,
      bitAt presence 0 = v.repeatMarker ∧ bitAt presence 1 = v.ticket.isSome ∧
      bitAt presence 2 = v.classZone.isSome ∧ bitAt presence 3 = v.figures.isSome ∧ presence.toNat < 16 ∧
      r.frame =
        [38,
          match v.verdict with
          | .grant => (0x01 : Byte) | .emergency => 0x02 | .gateClosed => 0x03 | .laneClosed => 0x04
          | .wrongSide => 0x05 | .malformed => 0x06 | .wrongEvent => 0x07 | .badCheck => 0x08
          | .laneOccupied => 0x09 | .unknown => 0x0A | .revoked => 0x0B | .heldElsewhere => 0x0C
          | .alreadyInside => 0x0D | .spent => 0x0E | .notInside => 0x0F | .classBarred => 0x10
          | .wrongLane => 0x11 | .cardRequired => 0x12 | .cardMismatch => 0x13 | .offlineBarred => 0x14
          | .noTime => 0x15 | .tooEarly => 0x16 | .tooLate => 0x17 | .cooldown => 0x18 | .zoneFull => 0x19,
          presence]
        ++ (match v.ticket with | some t => ticketBytes t | none => List.replicate 8 0x00)
        ++ (match v.classZone with | some (c, z) => [byteOf c.val, byteOf z.val] | none => [0x00, 0x00])
        ++ (match v.figures with | some (e, w) => [byteOf e, byteOf w] | none => [0x00, 0x00])
        ++ v.block.bytes ++ [check])

/-- LOAD_TICKET, its tests in their order: digits, check digit, record, then insertion into the lowest free slot or
replacement in the record's own slot. The record test fails for each fault that its rule lists and for no other, and
a record that passes it has every field as carried. -/
def Obligations.LoadTicketInsertsOrReplaces : Prop :=
  (∀ (t : Ticket) (p : List Byte), recordOf? t p = none ↔
    31 < (byteAt p 8).toNat ∨ byteAt p 9 ∉ [(0x01 : Byte), 0x03, 0x04, 0x05, 0x06] ∨ 15 < (byteAt p 10).toNat ∨
      (byteAt p 9 = 0x01 ∧ byteAt p 10 ≠ 0x00) ∨
      (byteAt p 9 ∈ [(0x03 : Byte), 0x04, 0x05] ∧ byteAt p 10 = 0x00) ∨
      (byteAt p 9 = 0x01 ∧ bitAt (byteAt p 11) 0 = true) ∨
      (bitAt (byteAt p 11) 0 = true ∧
        ¬(byteAt p 17 = 0x00 ∧ (byteAt p 18).toNat ≤ 5 ∨
          byteAt p 17 = 0x01 ∧ 1 ≤ (byteAt p 18).toNat ∧ (byteAt p 18).toNat ≤ 63)) ∨
      (bitAt (byteAt p 11) 1 = true ∧ byteAt p 19 ∉ [(4 : Byte), 7, 10])) ∧
  (∀ (t : Ticket) (p : List Byte) (r : Record), recordOf? t p = some r →
    r.ticket = t ∧ r.cls.val = (byteAt p 8).toNat ∧
      (match r.state with
        | .valid => byteAt p 9 = 0x01
        | .held _ => False
        | .inside => byteAt p 9 = 0x03
        | .outside => byteAt p 9 = 0x04
        | .spent => byteAt p 9 = 0x05
        | .revoked => byteAt p 9 = 0x06) ∧
      r.entries.val = (byteAt p 10).toNat ∧
      (bitAt (byteAt p 11) 0 = false → r.lastPassage = none) ∧
      (bitAt (byteAt p 11) 0 = true → ∃ source, r.lastPassage = some ⟨⟨field32 p 12, byteAt p 16⟩, source⟩ ∧
        match source with
        | .lane n => byteAt p 17 = 0x00 ∧ (byteAt p 18).toNat = n.val
        | .gate g => byteAt p 17 = 0x01 ∧ (byteAt p 18).toNat = g.val) ∧
      r.binding =
        (if bitAt (byteAt p 11) 1 = true then some ((p.drop 20).take (byteAt p 19).toNat) else none) ∧
      r.pendingReport = false) ∧
  ∀ (s : State) (p : List Byte),
    s.TakesUplink 0x10 p → p.length = 30 → (byteAt p 11).toNat < 16 → s.table.wf = true →
    (ticketOfBytes? (p.take 8) = none → exec .loadTicket s = .next (s.replied 0x10 p .badArg [])) ∧
    ∀ t, ticketOfBytes? (p.take 8) = some t →
      (ticketWellFormed t = false → exec .loadTicket s = .next (s.replied 0x10 p .badCheck [])) ∧
      (ticketWellFormed t = true →
        (recordOf? t p = none → exec .loadTicket s = .next (s.replied 0x10 p .badRecord [])) ∧
        ∀ r, recordOf? t p = some r →
          (s.table.lookup t = none →
            (s.table.length = 16384 → exec .loadTicket s = .next (s.replied 0x10 p .tableFull [])) ∧
            (s.table.length < 16384 → ∃ (u : State) (slot : Nat),
              exec .loadTicket s = .next (u.replied 0x10 p .ok (bytes16 slot)) ∧
              u = { s with table := u.table } ∧ u.table.length = s.table.length + 1 ∧
              s.table.get? slot = none ∧ (∀ k < slot, s.table.get? k ≠ none) ∧
              u.table.get? slot = some r ∧ ∀ k, k ≠ slot → u.table.get? k = s.table.get? k)) ∧
          ∀ slot old, s.table.lookup t = some (slot, old) →
            (old.isHeld = true → exec .loadTicket s = .next (s.replied 0x10 p .held [])) ∧
            (old.isHeld = false → old.pendingReport = true → exec .loadTicket s = .next (s.replied 0x10 p .pendingReport [])) ∧
            (old.isHeld = false → old.pendingReport = false → ∃ u : State,
              exec .loadTicket s = .next (u.replied 0x10 p .ok (bytes16 slot)) ∧
              u = { s with table := u.table } ∧ u.table.length = s.table.length ∧
              u.table.get? slot = some r ∧ ∀ k, k ≠ slot → u.table.get? k = s.table.get? k))

/-- DROP_TICKET, QUERY_TICKET and CLEAR_TABLE, with their refusals in order. -/
def Obligations.TableRequestsDropQueryAndClear : Prop :=
  (∀ (s : State) (p : List Byte), s.TakesUplink 0x11 p → p.length = 8 → s.table.wf = true →
    (ticketOfBytes? p = none → exec .dropTicket s = .next (s.replied 0x11 p .badArg [])) ∧
    ∀ t, ticketOfBytes? p = some t →
      (s.table.lookup t = none → exec .dropTicket s = .next (s.replied 0x11 p .notFound [])) ∧
      ∀ slot r, s.table.lookup t = some (slot, r) →
        (r.isHeld = true → exec .dropTicket s = .next (s.replied 0x11 p .held [])) ∧
        (r.isHeld = false → r.pendingReport = true →
          exec .dropTicket s = .next (s.replied 0x11 p .pendingReport [])) ∧
        (r.isHeld = false → r.pendingReport = false → ∃ u : State,
          exec .dropTicket s = .next (u.replied 0x11 p .ok (bytes16 slot)) ∧
          u = { s with table := u.table } ∧ u.table.length + 1 = s.table.length ∧
          u.table.get? slot = none ∧ ∀ k, k ≠ slot → u.table.get? k = s.table.get? k)) ∧
  (∀ (s : State) (p : List Byte), s.TakesUplink 0x13 p → p.length = 8 →
    (ticketOfBytes? p = none → exec .queryTicket s = .next (s.replied 0x13 p .badArg [])) ∧
    ∀ t, ticketOfBytes? p = some t →
      (s.table.lookup t = none → exec .queryTicket s = .next (s.replied 0x13 p .notFound [])) ∧
      ∀ slot r, s.table.lookup t = some (slot, r) →
        exec .queryTicket s = .next (s.replied 0x13 p .ok
          (bytes16 slot ++ r.block ++
            match r.state with
            | .held h =>
              [byteOf h.lane.val, match h.direction with | .IN => 0x01 | .OUT => 0x02]
                ++ bytes32 h.grantTime.seconds ++ [h.grantTime.fraction]
            | _ => List.replicate 7 0))) ∧
  ∀ s : State, s.TakesUplink 0x12 [] →
    (s.gc.gate ≠ .closed → exec .clearTable s = .next (s.replied 0x12 [] .gateOpen [])) ∧
    (s.gc.gate = .closed → (∃ e ∈ s.table, e.2.isHeld = true) →
      exec .clearTable s = .next (s.replied 0x12 [] .holdsActive [])) ∧
    (s.gc.gate = .closed → (∀ e ∈ s.table, e.2.isHeld = false) →
      exec .clearTable s = .next ({ s with
        table := [], pendingCount := 0
        attn := decide (s.watermark ≤ s.journal.length) }.replied 0x12 [] .ok []))

/-- SET_CLASS and SET_ZONE: the whole record written, with the cooldown clamped, or refused; the zone's carried
fields written, its reserved count kept. -/
def Obligations.ClassesAndZonesAreWritten : Prop :=
  (∀ (s : State) (p : List Byte), s.TakesUplink 0x20 p → p.length = 15 →
    (31 < (byteAt p 0).toNat ∨ 15 < (byteAt p 9).toNat ∨ 15 < (byteAt p 12).toNat ∨
        63 < (byteAt p 13).toNat ∨ 15 < (byteAt p 14).toNat →
      exec .setClass s = .next (s.replied 0x20 p .badArg [])) ∧
    ∀ (c : ClassNo) (limit : Fin 16) (zone : ZoneNo), (byteAt p 0).toNat = c.val →
      (byteAt p 9).toNat = limit.val → (byteAt p 12).toNat = zone.val → (byteAt p 13).toNat ≤ 63 →
      (byteAt p 14).toNat ≤ 15 → ∃ r : ClassRecord,
      r = { windowOpen := field32 p 1, windowClose := field32 p 5
            windowless := bitAt (byteAt p 14) 0, limit := limit
            cooldown := min (256 * (byteAt p 10).toNat + (byteAt p 11).toNat) 3600
            zone := zone, laneMask := r.laneMask, cardOnly := bitAt (byteAt p 14) 1
            bind := bitAt (byteAt p 14) 2, offlineOk := bitAt (byteAt p 14) 3 } ∧
      (∀ i < 6, r.laneMask.getLsbD i = bitAt (byteAt p 13) i) ∧
      exec .setClass s
        = .next ({ s with classes := s.classes.set c r }.replied 0x20 p .ok (classPayload c r))) ∧
  ∀ (s : State) (p : List Byte), s.TakesUplink 0x21 p → p.length = 6 → (byteAt p 1).toNat < 4 →
    (15 < (byteAt p 0).toNat → exec .setZone s = .next (s.replied 0x21 p .badArg [])) ∧
    ∀ (z : ZoneNo) (old new : ZoneRecord), (byteAt p 0).toNat = z.val → s.zones.get z = old →
      new = { capacity := if bitAt (byteAt p 1) 0 then field16 p 2 else old.capacity
              occupancy := if bitAt (byteAt p 1) 1 then field16 p 4 else old.occupancy
              reserved := old.reserved } →
      exec .setZone s = .next ({ s with zones := s.zones.set z new }.replied 0x21 p .ok
        (byteOf z.val :: bytes16 new.capacity.toNat ++ bytes16 new.occupancy.toNat
          ++ [byteOf new.reserved]))

/-- SET_CLOCK, READ_CLOCK, SET_WATERMARK and SET_LINK_TIMEOUT, which are never refused: the value carried, clamped
where its rule clamps, is stored and sent back. -/
def Obligations.ClockAndThresholdsAreSet : Prop :=
  (∀ (s : State) (v : BitVec 32), s.TakesUplink 0x22 (bytes32 v) →
    exec .setClock s = .next ({ s with clock := ⟨⟨v, 0⟩, true⟩ }.replied 0x22 (bytes32 v) .ok
      (bytes32 v ++ [0x00, 0x01]))) ∧
  (∀ s : State, s.TakesUplink 0x23 [] →
    exec .readClock s = .next (s.replied 0x23 [] .ok
      (bytes32 s.clock.time.seconds ++ [s.clock.time.fraction, if s.clock.valid then 0x01 else 0x00]))) ∧
  (∀ (s : State) (v : Nat), v < 65536 → s.TakesUplink 0x41 (bytes16 v) →
    ∃ (w : Nat) (u : State), (w = if v = 0 then 1 else if 1024 < v then 1024 else v) ∧
      u = { s with watermark := w, attn := decide (w ≤ s.journal.length ∨ 0 < s.pendingCount) } ∧
      exec .setWatermark s = .next (u.replied 0x41 (bytes16 v) .ok (bytes16 w))) ∧
  ∀ (s : State) (b : Byte), s.TakesUplink 0x53 [b] →
    ∃ w, (w = if b.toNat < 2 then 2 else b.toNat) ∧
      exec .setLinkTimeout s = .next
        ({ s with gc := { s.gc with linkTimeout := w } }.replied 0x53 [b] .ok [byteOf w])

/-- NOTE_ADMIT, after the tests common to the notices: applied to VALID and OUTSIDE records, journaled DOUBLE on
INSIDE, SPENT and REVOKED ones, marking an entry hold or journaling DOUBLE on a marked one with a withdraw sent, and
answered HELD on an exit hold. -/
def Obligations.NoteAdmitByRecordState : Prop :=
  ∀ (s : State) (t : Ticket) (g : GateId) (time : VenueTime) (p : List Byte),
    p = ticketBytes t ++ [byteOf g.val] ++ bytes32 time.seconds ++ [time.fraction] →
    s.TakesUplink 0x30 p → g ≠ 0 → s.table.wf = true →
    (g = s.gc.gateId → exec .noteAdmit s = .next (s.replied 0x30 p .echo [])) ∧
    (g ≠ s.gc.gateId → s.table.lookup t = none →
      exec .noteAdmit s = .next (s.replied 0x30 p .notFound [])) ∧
    ∀ slot r z, g ≠ s.gc.gateId → s.table.lookup t = some (slot, r) → (s.classes.get r.cls).zone = z →
      ∃ (u : State) (q : Record), u.table.get? slot = some q ∧ (∀ k, k ≠ slot → u.table.get? k = s.table.get? k) ∧
        u = { s with
          table := u.table, pendingCount := u.pendingCount, zones := u.zones, commands := u.commands
          journal := u.journal, nextSeq := u.nextSeq, attn := u.attn } ∧
        (let raised := s.zones.set z
          { s.zones.get z with
            occupancy := BitVec.ofNat 16 (min ((s.zones.get z).occupancy.toNat + 1) 65535) }
        let quiet := u.journal = s.journal ∧ u.nextSeq = s.nextSeq ∧ u.pendingCount = s.pendingCount
        let doubled :=
          s.Reports u slot .double (.gate g) time z r.pendingReport ∧
            q = { r with pendingReport := r.pendingReport || decide (1024 ≤ s.journal.length) }
        match r.state with
        | .held h =>
          match h.direction, h.remoteMark with
          | .OUT, _ =>
            u = s ∧ exec .noteAdmit s = .next (u.replied 0x30 p .held
              (bytes16 slot ++ [0x02, byteOf r.entries.val, byteOf h.lane.val, 0x02, 0x00]))
          | .IN, none =>
            quiet ∧ q = { r with state := .held { h with remoteMark := some ⟨g, time⟩ } } ∧
              u.zones = raised ∧ u.commands = s.commands ++ [.withdraw h.lane] ∧
              exec .noteAdmit s = .next (u.replied 0x30 p .ok
                (bytes16 slot ++ [0x02, byteOf r.entries.val, byteOf h.lane.val, 0x01, 0x01]))
          | .IN, some _ =>
            doubled ∧ u.zones = raised ∧ u.commands = s.commands ++ [.withdraw h.lane] ∧
              exec .noteAdmit s = .next (u.replied 0x30 p .ok
                (bytes16 slot ++ [0x02, byteOf r.entries.val, byteOf h.lane.val, 0x01, 0x01]))
        | .valid | .outside =>
          quiet ∧ q = { r with
              state := .inside, entries := q.entries, lastPassage := some ⟨time, .gate g⟩ } ∧
            q.entries.val = min (r.entries.val + 1) 15 ∧ u.zones = raised ∧ u.commands = s.commands ∧
            exec .noteAdmit s = .next (u.replied 0x30 p .ok
              (bytes16 slot ++ [0x03, byteOf q.entries.val, 0x00, 0x00, 0x00]))
        | _ =>
          doubled ∧ u.zones = s.zones ∧ u.commands = s.commands ∧
            exec .noteAdmit s = .next (u.replied 0x30 p .ok
              (bytes16 slot ++ [r.state.name.code, byteOf r.entries.val, 0x00, 0x00, 0x00])))

/-- NOTE_EXIT, after the tests common to the notices, and REVOKE: by the record's state. -/
def Obligations.NoteExitAndRevokeByRecordState : Prop :=
  (∀ (s : State) (t : Ticket) (g : GateId) (time : VenueTime) (p : List Byte),
    p = ticketBytes t ++ [byteOf g.val] ++ bytes32 time.seconds ++ [time.fraction] →
    s.TakesUplink 0x31 p → g ≠ 0 → s.table.wf = true →
    (g = s.gc.gateId → exec .noteExit s = .next (s.replied 0x31 p .echo [])) ∧
    (g ≠ s.gc.gateId → s.table.lookup t = none →
      exec .noteExit s = .next (s.replied 0x31 p .notFound [])) ∧
    ∀ slot r c, g ≠ s.gc.gateId → s.table.lookup t = some (slot, r) → s.classes.get r.cls = c →
      match r.state with
      | .inside =>
        ∃ (u : State) (q : Record), u.table.get? slot = some q ∧ (∀ k, k ≠ slot → u.table.get? k = s.table.get? k) ∧
          u = { s with
            table := u.table
            zones := s.zones.set c.zone
              { s.zones.get c.zone with
                occupancy := BitVec.ofNat 16 ((s.zones.get c.zone).occupancy.toNat - 1) } } ∧
          q = { r with
            state := if r.entries.val < c.limit.val then .outside else .spent
            lastPassage := some ⟨time, .gate g⟩ } ∧
          exec .noteExit s = .next (u.replied 0x31 p .ok
            (bytes16 slot ++ [q.state.name.code, byteOf r.entries.val, 0x00, 0x00, 0x00]))
      | .held h =>
        exec .noteExit s = .next (s.replied 0x31 p .held
          (bytes16 slot ++ [0x02, byteOf r.entries.val, byteOf h.lane.val,
            match h.direction with | .IN => 0x01 | .OUT => 0x02, 0x00]))
      | _ =>
        exec .noteExit s = .next (s.replied 0x31 p .notInside
          (bytes16 slot ++ [r.state.name.code, byteOf r.entries.val, 0x00, 0x00, 0x00]))) ∧
  ∀ (s : State) (t : Ticket), s.TakesUplink 0x32 (ticketBytes t) → s.table.wf = true →
    (s.table.lookup t = none →
      exec .revoke s = .next (s.replied 0x32 (ticketBytes t) .notFound [])) ∧
    ∀ slot r, s.table.lookup t = some (slot, r) →
      ∃ (u : State) (q : Record), u.table.get? slot = some q ∧ (∀ k, k ≠ slot → u.table.get? k = s.table.get? k) ∧
        u = { s with table := u.table, commands := u.commands } ∧
        match r.state with
        | .held h =>
          q = { r with state := .held { h with revokeMark := true } } ∧
            u.commands = s.commands ++ [.withdraw h.lane] ∧
            exec .revoke s = .next (u.replied 0x32 (ticketBytes t) .ok
              (bytes16 slot ++ [0x02, byteOf r.entries.val, byteOf h.lane.val,
                match h.direction with | .IN => 0x01 | .OUT => 0x02, 0x01]))
        | _ =>
          q = { r with state := .revoked } ∧ u.commands = s.commands ∧
            exec .revoke s = .next (u.replied 0x32 (ticketBytes t) .ok
              (bytes16 slot ++ [0x06, byteOf r.entries.val, 0x00, 0x00, 0x00]))

/-- A ticket number field with a nibble above 9 is answered BAD_ARG by each of the six requests that carry one, and
so is a notice with a gate id of 0 or above 63; nothing else changes. -/
def Obligations.FaultyTicketFieldsAreRefused : Prop :=
  ∀ (s : State) (type : Byte) (p : List Byte) (c : Instr) (length : Nat),
    s.TakesUplink type p → p.length = length →
    (c, type, length) ∈ [(Instr.loadTicket, (0x10 : Byte), 30), (.dropTicket, 0x11, 8),
      (.queryTicket, 0x13, 8), (.noteAdmit, 0x30, 14), (.noteExit, 0x31, 14), (.revoke, 0x32, 8)] →
    (c = .loadTicket → (byteAt p 11).toNat < 16) →
    ((∃ b ∈ p.take 8, 9 < b.toNat / 16 ∨ 9 < b.toNat % 16) ∨
      (length = 14 ∧ ((byteAt p 8).toNat = 0 ∨ 63 < (byteAt p 8).toNat))) →
    exec c s = .next (s.replied type p .badArg [])

/-- TAKE_JOURNAL: the lesser of the count, 16 and the depth is taken from the head and sent back in journal order
with the depth left, and ATTN follows. -/
def Obligations.TakeJournalDrainsTheHead : Prop :=
  ∀ (s : State) (b : Byte), s.TakesUplink 0x40 [b] →
    ∃ (k : Nat) (u : State), k = min (min b.toNat 16) s.journal.length ∧
      u = { s with
        journal := s.journal.drop k
        attn := decide (s.watermark ≤ s.journal.length - k ∨ 0 < s.pendingCount) } ∧
      exec .takeJournal s = .next (u.replied 0x40 [b] .ok
        (byteOf k :: bytes16 (s.journal.length - k) ++ (s.journal.take k).flatMap Entry.bytes))

/-- OPEN_GATE, CLOSE_GATE and SET_IDENTITY: by the gate state, and by the values carried. -/
def Obligations.GateRequestsActByGateState : Prop :=
  (∀ s : State, s.TakesUplink 0x50 [] →
    exec .openGate s = .next
      (if s.gc.gate = .evac then s.replied 0x50 [] .evacActive []
      else { s with gc := { s.gc with gate := .opened } }.replied 0x50 [] .ok [0x01])) ∧
  (∀ s : State, s.TakesUplink 0x51 [] →
    exec .closeGate s = .next
      (if s.gc.gate = .evac then s.replied 0x51 [] .evacActive []
      else { s with gc := { s.gc with gate := .closed } }.replied 0x51 [] .ok [0x00])) ∧
  (∀ (s : State) (g code : Byte), s.TakesUplink 0x52 [g, code] →
    (g.toNat = 0 ∨ 63 < g.toNat ∨ 9 < code.toNat / 16 ∨ 9 < code.toNat % 16 ∨ code = 0x00) →
    exec .setIdentity s = .next (s.replied 0x52 [g, code] .badArg [])) ∧
  ∀ (s : State) (g : GateId) (tens units : Digit) (p : List Byte), g ≠ 0 → ¬(tens = 0 ∧ units = 0) →
    p = [byteOf g.val, byteOf (16 * tens.val + units.val)] → s.TakesUplink 0x52 p →
    exec .setIdentity s = .next
      ({ s with gc := { s.gc with gateId := g, eventCode := ⟨tens, units⟩ } }.replied 0x52 p .ok p)

/-- SET_LANE: refused for a faulty lane, role or REVERSED and for a role change at a lane with a hold; otherwise the
role takes effect at once, the other fields carried go clamped to the preload, and the preload becomes live where
nothing is held and A is 0. -/
def Obligations.SetLaneWritesRoleAndPreload : Prop :=
  ∀ (s : State) (p : List Byte), s.TakesUplink 0x60 p → p.length = 6 → (byteAt p 1).toNat < 16 →
    ((5 < (byteAt p 0).toNat ∨ (bitAt (byteAt p 1) 0 = true ∧ 4 < (byteAt p 2).toNat) ∨
        (bitAt (byteAt p 1) 3 = true ∧ 1 < (byteAt p 5).toNat)) →
      exec .setLane s = .next (s.replied 0x60 p .badArg [])) ∧
    ∀ (n : Lane) (lu : LaneUnit) (role : Role), (byteAt p 0).toNat = n.val → s.lanes.get n = lu →
      (if bitAt (byteAt p 1) 0 then role.code = byteAt p 2 else role = lu.role) →
      (bitAt (byteAt p 1) 3 = true → (byteAt p 5).toNat ≤ 1) →
      (role ≠ lu.role → (s.contexts.get n).holdRef ≠ none →
        exec .setLane s = .next (s.replied 0x60 p .holdActive [])) ∧
      ((role = lu.role ∨ (s.contexts.get n).holdRef = none) →
        ∃ q preload, preload =
            ({ window :=
                if bitAt (byteAt p 1) 1 then max 1 (min 60 (byteAt p 3).toNat) else lu.preload.window,
               threshold :=
                if bitAt (byteAt p 1) 2 then max 48 (min 90 (byteAt p 4).toNat)
                else lu.preload.threshold,
               reversed :=
                if bitAt (byteAt p 1) 3 then decide (byteAt p 5 = 0x01) else lu.preload.reversed } : Settings) ∧
          q =
            (let written :=
              { lu with
                role := role, preload := preload
                live :=
                  if (s.contexts.get n).holdRef = none ∧ lu.hold = none ∧ lu.accumulator = 0 then preload
                  else lu.live }
            if role ≠ lu.role ∧ (lu.state = .closed ∨ lu.state = .locked) then
              written.inState (if role = .off then .closed else .locked)
            else written) ∧
          exec .setLane s = .next ({ s with lanes := s.lanes.set n q }.replied 0x60 p .ok
            [byteOf n.val, q.role.code, q.state.code,
              byteOf q.live.window, byteOf q.live.threshold, if q.live.reversed then 0x01 else 0x00,
              byteOf q.preload.window, byteOf q.preload.threshold,
              if q.preload.reversed then 0x01 else 0x00]))

/-- READ_TALLIES, STATUS, RESTART and UNKNOWN_REQUEST: the 36 tallies, cleared on request; the status bytes; the
services stopped; and BAD_ARG for an unknown type, a wrong payload length or a bad presence byte. That a request which
is none is answered by UNKNOWN_REQUEST alone, every other service row changing nothing, is the model's choice
(notes/assumptions/10.md, 1.md). -/
def Obligations.ReportsRestartAndUnknown : Prop :=
  (∀ (s : State) (b : Byte), s.TakesUplink 0x61 [b] →
    (1 < b.toNat → exec .readTallies s = .next (s.replied 0x61 [b] .badArg [])) ∧
    ∀ reply, reply = ([0, 1, 2, 3, 4, 5] : List Lane).flatMap (fun n =>
        bytes32 (s.lanes.get n).tallies.admits ++ bytes32 (s.lanes.get n).tallies.exits
          ++ bytes32 (s.lanes.get n).tallies.free ++ bytes32 (s.lanes.get n).tallies.forced
          ++ bytes32 (s.lanes.get n).tallies.refusals ++ bytes32 (s.lanes.get n).tallies.phase) →
      (b = 0x00 → exec .readTallies s = .next (s.replied 0x61 [b] .ok reply)) ∧
      (b = 0x01 → exec .readTallies s = .next
        ({ s with lanes := s.lanes.map fun lu : LaneUnit => { lu with tallies := ⟨0, 0, 0, 0, 0, 0⟩ } }.replied
          0x61 [b] .ok reply))) ∧
  (∀ s : State, s.TakesUplink 0x70 [] →
    exec .status s = .next (s.replied 0x70 [] .ok
      ([match s.gc.resetCause with | .power => 0x01 | .warm => 0x02,
        match s.gc.gate with | .closed => 0x00 | .opened => 0x01 | .evac => 0x02,
        match s.gc.link with | .offline => 0x00 | .online => 0x01,
        if s.gc.accepted then 0x01 else 0x00, if s.clock.valid then 0x01 else 0x00,
        byteOf s.gc.gateId.val, byteOf (16 * s.gc.eventCode.tens.val + s.gc.eventCode.units.val)]
        ++ bytes16 s.table.length ++ bytes16 s.pendingCount ++ bytes16 s.journal.length
        ++ bytes16 s.nextSeq.toNat))) ∧
  (∀ s : State, s.TakesUplink 0x71 [] →
    exec .restart s = .next ({ s with restarting := true }.replied 0x71 [] .ok [])) ∧
  ∀ (s : State) (type : Byte) (p : List Byte), s.TakesUplink type p →
    (catalogue type = none ∨ (∃ k length, catalogue type = some (k, length) ∧ p.length ≠ length) ∨
      (type = 0x21 ∧ 4 ≤ (byteAt p 1).toNat) ∨ (type = 0x60 ∧ 16 ≤ (byteAt p 1).toNat) ∨
      (type = 0x10 ∧ 16 ≤ (byteAt p 11).toNat)) →
    exec .unknownRequest s = .next (s.replied type p .badArg []) ∧
      ∀ c ∈ serviceCommands, c ≠ .unknownRequest → exec c s = .next s
end

