-- ==== Sys2Proof/Laws/State.lean ====
section
/-! SUPPORT. What each shared update of the state leaves in each field: one lemma a field, so that no proof
unfolds a record update. -/

namespace Sys2Proof.Machine

/-! ### Vectors by lane, class and zone -/
@[simp] theorem get_set {α : Type} {k : Nat} (v : Vector α k) (n m : Fin k) (x : α) :
    (v.set n x).get m = if n = m then x else v.get m := by
  simp [Vector.get_eq_getElem, Vector.getElem_set, Fin.ext_iff]
@[simp] theorem get_map {α β : Type} {k : Nat} (f : α → β) (v : Vector α k) (n : Fin k) :
    (v.map f).get n = f (v.get n) := by
  simp [Vector.get_eq_getElem]
@[simp] theorem get_replicate {α : Type} {k : Nat} (x : α) (n : Fin k) :
    (Vector.replicate k x).get n = x := by
  simp [Vector.get_eq_getElem]

theorem set_get_self {α : Type} {k : Nat} (v : Vector α k) (n : Fin k) : v.set n (v.get n) = v := by
  simp [Vector.get_eq_getElem]

theorem get_ext {α : Type} {k : Nat} {v w : Vector α k} (h : ∀ n : Fin k, v.get n = w.get n) : v = w := by
  apply Vector.ext
  intro i hi
  simpa [Vector.get_eq_getElem] using h ⟨i, hi⟩


/-! ### State.setLane -/
@[simp] theorem State.setLane_table (s : State) (n : Lane) (lu : LaneUnit) :
    (s.setLane n lu).table = s.table := rfl
@[simp] theorem State.setLane_pendingCount (s : State) (n : Lane) (lu : LaneUnit) :
    (s.setLane n lu).pendingCount = s.pendingCount := rfl
@[simp] theorem State.setLane_classes (s : State) (n : Lane) (lu : LaneUnit) :
    (s.setLane n lu).classes = s.classes := rfl
@[simp] theorem State.setLane_zones (s : State) (n : Lane) (lu : LaneUnit) :
    (s.setLane n lu).zones = s.zones := rfl
@[simp] theorem State.setLane_clock (s : State) (n : Lane) (lu : LaneUnit) :
    (s.setLane n lu).clock = s.clock := rfl
@[simp] theorem State.setLane_contexts (s : State) (n : Lane) (lu : LaneUnit) :
    (s.setLane n lu).contexts = s.contexts := rfl
@[simp] theorem State.setLane_pointer (s : State) (n : Lane) (lu : LaneUnit) :
    (s.setLane n lu).pointer = s.pointer := rfl
@[simp] theorem State.setLane_turn (s : State) (n : Lane) (lu : LaneUnit) :
    (s.setLane n lu).turn = s.turn := rfl
@[simp] theorem State.setLane_chosen (s : State) (n : Lane) (lu : LaneUnit) :
    (s.setLane n lu).chosen = s.chosen := rfl
@[simp] theorem State.setLane_restarting (s : State) (n : Lane) (lu : LaneUnit) :
    (s.setLane n lu).restarting = s.restarting := rfl
@[simp] theorem State.setLane_commands (s : State) (n : Lane) (lu : LaneUnit) :
    (s.setLane n lu).commands = s.commands := rfl
@[simp] theorem State.setLane_lanes (s : State) (n : Lane) (lu : LaneUnit) :
    (s.setLane n lu).lanes = s.lanes.set n lu := rfl
@[simp] theorem State.setLane_journal (s : State) (n : Lane) (lu : LaneUnit) :
    (s.setLane n lu).journal = s.journal := rfl
@[simp] theorem State.setLane_nextSeq (s : State) (n : Lane) (lu : LaneUnit) :
    (s.setLane n lu).nextSeq = s.nextSeq := rfl
@[simp] theorem State.setLane_watermark (s : State) (n : Lane) (lu : LaneUnit) :
    (s.setLane n lu).watermark = s.watermark := rfl
@[simp] theorem State.setLane_attn (s : State) (n : Lane) (lu : LaneUnit) :
    (s.setLane n lu).attn = s.attn := rfl
@[simp] theorem State.setLane_gc (s : State) (n : Lane) (lu : LaneUnit) :
    (s.setLane n lu).gc = s.gc := rfl
@[simp] theorem State.setLane_ports (s : State) (n : Lane) (lu : LaneUnit) :
    (s.setLane n lu).ports = s.ports := rfl
@[simp] theorem State.setLane_uplink (s : State) (n : Lane) (lu : LaneUnit) :
    (s.setLane n lu).uplink = s.uplink := rfl
@[simp] theorem State.setLane_evacPin (s : State) (n : Lane) (lu : LaneUnit) :
    (s.setLane n lu).evacPin = s.evacPin := rfl
@[simp] theorem State.setLane_rstAsserted (s : State) (n : Lane) (lu : LaneUnit) :
    (s.setLane n lu).rstAsserted = s.rstAsserted := rfl
@[simp] theorem State.setLane_warmResetDue (s : State) (n : Lane) (lu : LaneUnit) :
    (s.setLane n lu).warmResetDue = s.warmResetDue := rfl
@[simp] theorem State.setLane_pending (s : State) (n : Lane) (lu : LaneUnit) :
    (s.setLane n lu).pending = s.pending := rfl


/-! ### State.setContext -/
@[simp] theorem State.setContext_table (s : State) (n : Lane) (c : LaneContext) :
    (s.setContext n c).table = s.table := rfl
@[simp] theorem State.setContext_pendingCount (s : State) (n : Lane) (c : LaneContext) :
    (s.setContext n c).pendingCount = s.pendingCount := rfl
@[simp] theorem State.setContext_classes (s : State) (n : Lane) (c : LaneContext) :
    (s.setContext n c).classes = s.classes := rfl
@[simp] theorem State.setContext_zones (s : State) (n : Lane) (c : LaneContext) :
    (s.setContext n c).zones = s.zones := rfl
@[simp] theorem State.setContext_clock (s : State) (n : Lane) (c : LaneContext) :
    (s.setContext n c).clock = s.clock := rfl
@[simp] theorem State.setContext_contexts (s : State) (n : Lane) (c : LaneContext) :
    (s.setContext n c).contexts = s.contexts.set n c := rfl
@[simp] theorem State.setContext_pointer (s : State) (n : Lane) (c : LaneContext) :
    (s.setContext n c).pointer = s.pointer := rfl
@[simp] theorem State.setContext_turn (s : State) (n : Lane) (c : LaneContext) :
    (s.setContext n c).turn = s.turn := rfl
@[simp] theorem State.setContext_chosen (s : State) (n : Lane) (c : LaneContext) :
    (s.setContext n c).chosen = s.chosen := rfl
@[simp] theorem State.setContext_restarting (s : State) (n : Lane) (c : LaneContext) :
    (s.setContext n c).restarting = s.restarting := rfl
@[simp] theorem State.setContext_commands (s : State) (n : Lane) (c : LaneContext) :
    (s.setContext n c).commands = s.commands := rfl
@[simp] theorem State.setContext_lanes (s : State) (n : Lane) (c : LaneContext) :
    (s.setContext n c).lanes = s.lanes := rfl
@[simp] theorem State.setContext_journal (s : State) (n : Lane) (c : LaneContext) :
    (s.setContext n c).journal = s.journal := rfl
@[simp] theorem State.setContext_nextSeq (s : State) (n : Lane) (c : LaneContext) :
    (s.setContext n c).nextSeq = s.nextSeq := rfl
@[simp] theorem State.setContext_watermark (s : State) (n : Lane) (c : LaneContext) :
    (s.setContext n c).watermark = s.watermark := rfl
@[simp] theorem State.setContext_attn (s : State) (n : Lane) (c : LaneContext) :
    (s.setContext n c).attn = s.attn := rfl
@[simp] theorem State.setContext_gc (s : State) (n : Lane) (c : LaneContext) :
    (s.setContext n c).gc = s.gc := rfl
@[simp] theorem State.setContext_ports (s : State) (n : Lane) (c : LaneContext) :
    (s.setContext n c).ports = s.ports := rfl
@[simp] theorem State.setContext_uplink (s : State) (n : Lane) (c : LaneContext) :
    (s.setContext n c).uplink = s.uplink := rfl
@[simp] theorem State.setContext_evacPin (s : State) (n : Lane) (c : LaneContext) :
    (s.setContext n c).evacPin = s.evacPin := rfl
@[simp] theorem State.setContext_rstAsserted (s : State) (n : Lane) (c : LaneContext) :
    (s.setContext n c).rstAsserted = s.rstAsserted := rfl
@[simp] theorem State.setContext_warmResetDue (s : State) (n : Lane) (c : LaneContext) :
    (s.setContext n c).warmResetDue = s.warmResetDue := rfl
@[simp] theorem State.setContext_pending (s : State) (n : Lane) (c : LaneContext) :
    (s.setContext n c).pending = s.pending := rfl


/-! ### State.setPort -/
@[simp] theorem State.setPort_table (s : State) (n : Lane) (p : Port) :
    (s.setPort n p).table = s.table := rfl
@[simp] theorem State.setPort_pendingCount (s : State) (n : Lane) (p : Port) :
    (s.setPort n p).pendingCount = s.pendingCount := rfl
@[simp] theorem State.setPort_classes (s : State) (n : Lane) (p : Port) :
    (s.setPort n p).classes = s.classes := rfl
@[simp] theorem State.setPort_zones (s : State) (n : Lane) (p : Port) :
    (s.setPort n p).zones = s.zones := rfl
@[simp] theorem State.setPort_clock (s : State) (n : Lane) (p : Port) :
    (s.setPort n p).clock = s.clock := rfl
@[simp] theorem State.setPort_contexts (s : State) (n : Lane) (p : Port) :
    (s.setPort n p).contexts = s.contexts := rfl
@[simp] theorem State.setPort_pointer (s : State) (n : Lane) (p : Port) :
    (s.setPort n p).pointer = s.pointer := rfl
@[simp] theorem State.setPort_turn (s : State) (n : Lane) (p : Port) :
    (s.setPort n p).turn = s.turn := rfl
@[simp] theorem State.setPort_chosen (s : State) (n : Lane) (p : Port) :
    (s.setPort n p).chosen = s.chosen := rfl
@[simp] theorem State.setPort_restarting (s : State) (n : Lane) (p : Port) :
    (s.setPort n p).restarting = s.restarting := rfl
@[simp] theorem State.setPort_commands (s : State) (n : Lane) (p : Port) :
    (s.setPort n p).commands = s.commands := rfl
@[simp] theorem State.setPort_lanes (s : State) (n : Lane) (p : Port) :
    (s.setPort n p).lanes = s.lanes := rfl
@[simp] theorem State.setPort_journal (s : State) (n : Lane) (p : Port) :
    (s.setPort n p).journal = s.journal := rfl
@[simp] theorem State.setPort_nextSeq (s : State) (n : Lane) (p : Port) :
    (s.setPort n p).nextSeq = s.nextSeq := rfl
@[simp] theorem State.setPort_watermark (s : State) (n : Lane) (p : Port) :
    (s.setPort n p).watermark = s.watermark := rfl
@[simp] theorem State.setPort_attn (s : State) (n : Lane) (p : Port) :
    (s.setPort n p).attn = s.attn := rfl
@[simp] theorem State.setPort_gc (s : State) (n : Lane) (p : Port) :
    (s.setPort n p).gc = s.gc := rfl
@[simp] theorem State.setPort_ports (s : State) (n : Lane) (p : Port) :
    (s.setPort n p).ports = s.ports.set n p := rfl
@[simp] theorem State.setPort_uplink (s : State) (n : Lane) (p : Port) :
    (s.setPort n p).uplink = s.uplink := rfl
@[simp] theorem State.setPort_evacPin (s : State) (n : Lane) (p : Port) :
    (s.setPort n p).evacPin = s.evacPin := rfl
@[simp] theorem State.setPort_rstAsserted (s : State) (n : Lane) (p : Port) :
    (s.setPort n p).rstAsserted = s.rstAsserted := rfl
@[simp] theorem State.setPort_warmResetDue (s : State) (n : Lane) (p : Port) :
    (s.setPort n p).warmResetDue = s.warmResetDue := rfl
@[simp] theorem State.setPort_pending (s : State) (n : Lane) (p : Port) :
    (s.setPort n p).pending = s.pending := rfl


/-! ### State.setRecord -/
@[simp] theorem State.setRecord_table (s : State) (k : Nat) (r : Record) :
    (s.setRecord k r).table = s.table.set k r := rfl
@[simp] theorem State.setRecord_pendingCount (s : State) (k : Nat) (r : Record) :
    (s.setRecord k r).pendingCount = s.pendingCount := rfl
@[simp] theorem State.setRecord_classes (s : State) (k : Nat) (r : Record) :
    (s.setRecord k r).classes = s.classes := rfl
@[simp] theorem State.setRecord_zones (s : State) (k : Nat) (r : Record) :
    (s.setRecord k r).zones = s.zones := rfl
@[simp] theorem State.setRecord_clock (s : State) (k : Nat) (r : Record) :
    (s.setRecord k r).clock = s.clock := rfl
@[simp] theorem State.setRecord_contexts (s : State) (k : Nat) (r : Record) :
    (s.setRecord k r).contexts = s.contexts := rfl
@[simp] theorem State.setRecord_pointer (s : State) (k : Nat) (r : Record) :
    (s.setRecord k r).pointer = s.pointer := rfl
@[simp] theorem State.setRecord_turn (s : State) (k : Nat) (r : Record) :
    (s.setRecord k r).turn = s.turn := rfl
@[simp] theorem State.setRecord_chosen (s : State) (k : Nat) (r : Record) :
    (s.setRecord k r).chosen = s.chosen := rfl
@[simp] theorem State.setRecord_restarting (s : State) (k : Nat) (r : Record) :
    (s.setRecord k r).restarting = s.restarting := rfl
@[simp] theorem State.setRecord_commands (s : State) (k : Nat) (r : Record) :
    (s.setRecord k r).commands = s.commands := rfl
@[simp] theorem State.setRecord_lanes (s : State) (k : Nat) (r : Record) :
    (s.setRecord k r).lanes = s.lanes := rfl
@[simp] theorem State.setRecord_journal (s : State) (k : Nat) (r : Record) :
    (s.setRecord k r).journal = s.journal := rfl
@[simp] theorem State.setRecord_nextSeq (s : State) (k : Nat) (r : Record) :
    (s.setRecord k r).nextSeq = s.nextSeq := rfl
@[simp] theorem State.setRecord_watermark (s : State) (k : Nat) (r : Record) :
    (s.setRecord k r).watermark = s.watermark := rfl
@[simp] theorem State.setRecord_attn (s : State) (k : Nat) (r : Record) :
    (s.setRecord k r).attn = s.attn := rfl
@[simp] theorem State.setRecord_gc (s : State) (k : Nat) (r : Record) :
    (s.setRecord k r).gc = s.gc := rfl
@[simp] theorem State.setRecord_ports (s : State) (k : Nat) (r : Record) :
    (s.setRecord k r).ports = s.ports := rfl
@[simp] theorem State.setRecord_uplink (s : State) (k : Nat) (r : Record) :
    (s.setRecord k r).uplink = s.uplink := rfl
@[simp] theorem State.setRecord_evacPin (s : State) (k : Nat) (r : Record) :
    (s.setRecord k r).evacPin = s.evacPin := rfl
@[simp] theorem State.setRecord_rstAsserted (s : State) (k : Nat) (r : Record) :
    (s.setRecord k r).rstAsserted = s.rstAsserted := rfl
@[simp] theorem State.setRecord_warmResetDue (s : State) (k : Nat) (r : Record) :
    (s.setRecord k r).warmResetDue = s.warmResetDue := rfl
@[simp] theorem State.setRecord_pending (s : State) (k : Nat) (r : Record) :
    (s.setRecord k r).pending = s.pending := rfl


/-! ### State.modifyZone -/
@[simp] theorem State.modifyZone_table (s : State) (z : ZoneNo) (f : ZoneRecord → ZoneRecord) :
    (s.modifyZone z f).table = s.table := rfl
@[simp] theorem State.modifyZone_pendingCount (s : State) (z : ZoneNo) (f : ZoneRecord → ZoneRecord) :
    (s.modifyZone z f).pendingCount = s.pendingCount := rfl
@[simp] theorem State.modifyZone_classes (s : State) (z : ZoneNo) (f : ZoneRecord → ZoneRecord) :
    (s.modifyZone z f).classes = s.classes := rfl
@[simp] theorem State.modifyZone_zones (s : State) (z : ZoneNo) (f : ZoneRecord → ZoneRecord) :
    (s.modifyZone z f).zones = s.zones.set z (f (s.zones.get z)) := rfl
@[simp] theorem State.modifyZone_clock (s : State) (z : ZoneNo) (f : ZoneRecord → ZoneRecord) :
    (s.modifyZone z f).clock = s.clock := rfl
@[simp] theorem State.modifyZone_contexts (s : State) (z : ZoneNo) (f : ZoneRecord → ZoneRecord) :
    (s.modifyZone z f).contexts = s.contexts := rfl
@[simp] theorem State.modifyZone_pointer (s : State) (z : ZoneNo) (f : ZoneRecord → ZoneRecord) :
    (s.modifyZone z f).pointer = s.pointer := rfl
@[simp] theorem State.modifyZone_turn (s : State) (z : ZoneNo) (f : ZoneRecord → ZoneRecord) :
    (s.modifyZone z f).turn = s.turn := rfl
@[simp] theorem State.modifyZone_chosen (s : State) (z : ZoneNo) (f : ZoneRecord → ZoneRecord) :
    (s.modifyZone z f).chosen = s.chosen := rfl
@[simp] theorem State.modifyZone_restarting (s : State) (z : ZoneNo) (f : ZoneRecord → ZoneRecord) :
    (s.modifyZone z f).restarting = s.restarting := rfl
@[simp] theorem State.modifyZone_commands (s : State) (z : ZoneNo) (f : ZoneRecord → ZoneRecord) :
    (s.modifyZone z f).commands = s.commands := rfl
@[simp] theorem State.modifyZone_lanes (s : State) (z : ZoneNo) (f : ZoneRecord → ZoneRecord) :
    (s.modifyZone z f).lanes = s.lanes := rfl
@[simp] theorem State.modifyZone_journal (s : State) (z : ZoneNo) (f : ZoneRecord → ZoneRecord) :
    (s.modifyZone z f).journal = s.journal := rfl
@[simp] theorem State.modifyZone_nextSeq (s : State) (z : ZoneNo) (f : ZoneRecord → ZoneRecord) :
    (s.modifyZone z f).nextSeq = s.nextSeq := rfl
@[simp] theorem State.modifyZone_watermark (s : State) (z : ZoneNo) (f : ZoneRecord → ZoneRecord) :
    (s.modifyZone z f).watermark = s.watermark := rfl
@[simp] theorem State.modifyZone_attn (s : State) (z : ZoneNo) (f : ZoneRecord → ZoneRecord) :
    (s.modifyZone z f).attn = s.attn := rfl
@[simp] theorem State.modifyZone_gc (s : State) (z : ZoneNo) (f : ZoneRecord → ZoneRecord) :
    (s.modifyZone z f).gc = s.gc := rfl
@[simp] theorem State.modifyZone_ports (s : State) (z : ZoneNo) (f : ZoneRecord → ZoneRecord) :
    (s.modifyZone z f).ports = s.ports := rfl
@[simp] theorem State.modifyZone_uplink (s : State) (z : ZoneNo) (f : ZoneRecord → ZoneRecord) :
    (s.modifyZone z f).uplink = s.uplink := rfl
@[simp] theorem State.modifyZone_evacPin (s : State) (z : ZoneNo) (f : ZoneRecord → ZoneRecord) :
    (s.modifyZone z f).evacPin = s.evacPin := rfl
@[simp] theorem State.modifyZone_rstAsserted (s : State) (z : ZoneNo) (f : ZoneRecord → ZoneRecord) :
    (s.modifyZone z f).rstAsserted = s.rstAsserted := rfl
@[simp] theorem State.modifyZone_warmResetDue (s : State) (z : ZoneNo) (f : ZoneRecord → ZoneRecord) :
    (s.modifyZone z f).warmResetDue = s.warmResetDue := rfl
@[simp] theorem State.modifyZone_pending (s : State) (z : ZoneNo) (f : ZoneRecord → ZoneRecord) :
    (s.modifyZone z f).pending = s.pending := rfl


/-! ### State.driveAttn -/
@[simp] theorem State.driveAttn_table (s : State) :
    (s.driveAttn).table = s.table := rfl
@[simp] theorem State.driveAttn_pendingCount (s : State) :
    (s.driveAttn).pendingCount = s.pendingCount := rfl
@[simp] theorem State.driveAttn_classes (s : State) :
    (s.driveAttn).classes = s.classes := rfl
@[simp] theorem State.driveAttn_zones (s : State) :
    (s.driveAttn).zones = s.zones := rfl
@[simp] theorem State.driveAttn_clock (s : State) :
    (s.driveAttn).clock = s.clock := rfl
@[simp] theorem State.driveAttn_contexts (s : State) :
    (s.driveAttn).contexts = s.contexts := rfl
@[simp] theorem State.driveAttn_pointer (s : State) :
    (s.driveAttn).pointer = s.pointer := rfl
@[simp] theorem State.driveAttn_turn (s : State) :
    (s.driveAttn).turn = s.turn := rfl
@[simp] theorem State.driveAttn_chosen (s : State) :
    (s.driveAttn).chosen = s.chosen := rfl
@[simp] theorem State.driveAttn_restarting (s : State) :
    (s.driveAttn).restarting = s.restarting := rfl
@[simp] theorem State.driveAttn_commands (s : State) :
    (s.driveAttn).commands = s.commands := rfl
@[simp] theorem State.driveAttn_lanes (s : State) :
    (s.driveAttn).lanes = s.lanes := rfl
@[simp] theorem State.driveAttn_journal (s : State) :
    (s.driveAttn).journal = s.journal := rfl
@[simp] theorem State.driveAttn_nextSeq (s : State) :
    (s.driveAttn).nextSeq = s.nextSeq := rfl
@[simp] theorem State.driveAttn_watermark (s : State) :
    (s.driveAttn).watermark = s.watermark := rfl
@[simp] theorem State.driveAttn_attn (s : State) :
    (s.driveAttn).attn = s.attnCondition := rfl
@[simp] theorem State.driveAttn_gc (s : State) :
    (s.driveAttn).gc = s.gc := rfl
@[simp] theorem State.driveAttn_ports (s : State) :
    (s.driveAttn).ports = s.ports := rfl
@[simp] theorem State.driveAttn_uplink (s : State) :
    (s.driveAttn).uplink = s.uplink := rfl
@[simp] theorem State.driveAttn_evacPin (s : State) :
    (s.driveAttn).evacPin = s.evacPin := rfl
@[simp] theorem State.driveAttn_rstAsserted (s : State) :
    (s.driveAttn).rstAsserted = s.rstAsserted := rfl
@[simp] theorem State.driveAttn_warmResetDue (s : State) :
    (s.driveAttn).warmResetDue = s.warmResetDue := rfl
@[simp] theorem State.driveAttn_pending (s : State) :
    (s.driveAttn).pending = s.pending := rfl


/-! ### State.mapLanes -/
@[simp] theorem State.mapLanes_table (s : State) (f : LaneUnit → LaneUnit) :
    (s.mapLanes f).table = s.table := rfl
@[simp] theorem State.mapLanes_pendingCount (s : State) (f : LaneUnit → LaneUnit) :
    (s.mapLanes f).pendingCount = s.pendingCount := rfl
@[simp] theorem State.mapLanes_classes (s : State) (f : LaneUnit → LaneUnit) :
    (s.mapLanes f).classes = s.classes := rfl
@[simp] theorem State.mapLanes_zones (s : State) (f : LaneUnit → LaneUnit) :
    (s.mapLanes f).zones = s.zones := rfl
@[simp] theorem State.mapLanes_clock (s : State) (f : LaneUnit → LaneUnit) :
    (s.mapLanes f).clock = s.clock := rfl
@[simp] theorem State.mapLanes_contexts (s : State) (f : LaneUnit → LaneUnit) :
    (s.mapLanes f).contexts = s.contexts := rfl
@[simp] theorem State.mapLanes_pointer (s : State) (f : LaneUnit → LaneUnit) :
    (s.mapLanes f).pointer = s.pointer := rfl
@[simp] theorem State.mapLanes_turn (s : State) (f : LaneUnit → LaneUnit) :
    (s.mapLanes f).turn = s.turn := rfl
@[simp] theorem State.mapLanes_chosen (s : State) (f : LaneUnit → LaneUnit) :
    (s.mapLanes f).chosen = s.chosen := rfl
@[simp] theorem State.mapLanes_restarting (s : State) (f : LaneUnit → LaneUnit) :
    (s.mapLanes f).restarting = s.restarting := rfl
@[simp] theorem State.mapLanes_commands (s : State) (f : LaneUnit → LaneUnit) :
    (s.mapLanes f).commands = s.commands := rfl
@[simp] theorem State.mapLanes_lanes (s : State) (f : LaneUnit → LaneUnit) :
    (s.mapLanes f).lanes = s.lanes.map f := rfl
@[simp] theorem State.mapLanes_journal (s : State) (f : LaneUnit → LaneUnit) :
    (s.mapLanes f).journal = s.journal := rfl
@[simp] theorem State.mapLanes_nextSeq (s : State) (f : LaneUnit → LaneUnit) :
    (s.mapLanes f).nextSeq = s.nextSeq := rfl
@[simp] theorem State.mapLanes_watermark (s : State) (f : LaneUnit → LaneUnit) :
    (s.mapLanes f).watermark = s.watermark := rfl
@[simp] theorem State.mapLanes_attn (s : State) (f : LaneUnit → LaneUnit) :
    (s.mapLanes f).attn = s.attn := rfl
@[simp] theorem State.mapLanes_gc (s : State) (f : LaneUnit → LaneUnit) :
    (s.mapLanes f).gc = s.gc := rfl
@[simp] theorem State.mapLanes_ports (s : State) (f : LaneUnit → LaneUnit) :
    (s.mapLanes f).ports = s.ports := rfl
@[simp] theorem State.mapLanes_uplink (s : State) (f : LaneUnit → LaneUnit) :
    (s.mapLanes f).uplink = s.uplink := rfl
@[simp] theorem State.mapLanes_evacPin (s : State) (f : LaneUnit → LaneUnit) :
    (s.mapLanes f).evacPin = s.evacPin := rfl
@[simp] theorem State.mapLanes_rstAsserted (s : State) (f : LaneUnit → LaneUnit) :
    (s.mapLanes f).rstAsserted = s.rstAsserted := rfl
@[simp] theorem State.mapLanes_warmResetDue (s : State) (f : LaneUnit → LaneUnit) :
    (s.mapLanes f).warmResetDue = s.warmResetDue := rfl
@[simp] theorem State.mapLanes_pending (s : State) (f : LaneUnit → LaneUnit) :
    (s.mapLanes f).pending = s.pending := rfl


/-! ### State.tickClock -/
@[simp] theorem State.tickClock_table (s : State) :
    (s.tickClock).table = s.table := rfl
@[simp] theorem State.tickClock_pendingCount (s : State) :
    (s.tickClock).pendingCount = s.pendingCount := rfl
@[simp] theorem State.tickClock_classes (s : State) :
    (s.tickClock).classes = s.classes := rfl
@[simp] theorem State.tickClock_zones (s : State) :
    (s.tickClock).zones = s.zones := rfl
@[simp] theorem State.tickClock_clock (s : State) :
    (s.tickClock).clock = ⟨VenueTime.tick s.clock.time, s.clock.valid⟩ := rfl
@[simp] theorem State.tickClock_contexts (s : State) :
    (s.tickClock).contexts = s.contexts := rfl
@[simp] theorem State.tickClock_pointer (s : State) :
    (s.tickClock).pointer = s.pointer := rfl
@[simp] theorem State.tickClock_turn (s : State) :
    (s.tickClock).turn = s.turn := rfl
@[simp] theorem State.tickClock_chosen (s : State) :
    (s.tickClock).chosen = s.chosen := rfl
@[simp] theorem State.tickClock_restarting (s : State) :
    (s.tickClock).restarting = s.restarting := rfl
@[simp] theorem State.tickClock_commands (s : State) :
    (s.tickClock).commands = s.commands := rfl
@[simp] theorem State.tickClock_lanes (s : State) :
    (s.tickClock).lanes = s.lanes := rfl
@[simp] theorem State.tickClock_journal (s : State) :
    (s.tickClock).journal = s.journal := rfl
@[simp] theorem State.tickClock_nextSeq (s : State) :
    (s.tickClock).nextSeq = s.nextSeq := rfl
@[simp] theorem State.tickClock_watermark (s : State) :
    (s.tickClock).watermark = s.watermark := rfl
@[simp] theorem State.tickClock_attn (s : State) :
    (s.tickClock).attn = s.attn := rfl
@[simp] theorem State.tickClock_gc (s : State) :
    (s.tickClock).gc = s.gc := rfl
@[simp] theorem State.tickClock_ports (s : State) :
    (s.tickClock).ports = s.ports := rfl
@[simp] theorem State.tickClock_uplink (s : State) :
    (s.tickClock).uplink = s.uplink := rfl
@[simp] theorem State.tickClock_evacPin (s : State) :
    (s.tickClock).evacPin = s.evacPin := rfl
@[simp] theorem State.tickClock_rstAsserted (s : State) :
    (s.tickClock).rstAsserted = s.rstAsserted := rfl
@[simp] theorem State.tickClock_warmResetDue (s : State) :
    (s.tickClock).warmResetDue = s.warmResetDue := rfl
@[simp] theorem State.tickClock_pending (s : State) :
    (s.tickClock).pending = s.pending := rfl


/-! ### State.finish -/
@[simp] theorem State.finish_table (s : State) :
    (s.finish).table = s.table := rfl
@[simp] theorem State.finish_pendingCount (s : State) :
    (s.finish).pendingCount = s.pendingCount := rfl
@[simp] theorem State.finish_classes (s : State) :
    (s.finish).classes = s.classes := rfl
@[simp] theorem State.finish_zones (s : State) :
    (s.finish).zones = s.zones := rfl
@[simp] theorem State.finish_clock (s : State) :
    (s.finish).clock = s.clock := rfl
@[simp] theorem State.finish_contexts (s : State) :
    (s.finish).contexts = s.contexts := rfl
@[simp] theorem State.finish_pointer (s : State) :
    (s.finish).pointer = s.pointer := rfl
@[simp] theorem State.finish_turn (s : State) :
    (s.finish).turn = s.turn := rfl
@[simp] theorem State.finish_chosen (s : State) :
    (s.finish).chosen = none := rfl
@[simp] theorem State.finish_restarting (s : State) :
    (s.finish).restarting = s.restarting := rfl
@[simp] theorem State.finish_commands (s : State) :
    (s.finish).commands = s.commands := rfl
@[simp] theorem State.finish_lanes (s : State) :
    (s.finish).lanes = s.lanes := rfl
@[simp] theorem State.finish_journal (s : State) :
    (s.finish).journal = s.journal := rfl
@[simp] theorem State.finish_nextSeq (s : State) :
    (s.finish).nextSeq = s.nextSeq := rfl
@[simp] theorem State.finish_watermark (s : State) :
    (s.finish).watermark = s.watermark := rfl
@[simp] theorem State.finish_attn (s : State) :
    (s.finish).attn = s.attn := rfl
@[simp] theorem State.finish_gc (s : State) :
    (s.finish).gc = s.gc := rfl
@[simp] theorem State.finish_ports (s : State) :
    (s.finish).ports = s.ports := rfl
@[simp] theorem State.finish_uplink (s : State) :
    (s.finish).uplink = s.uplink := rfl
@[simp] theorem State.finish_evacPin (s : State) :
    (s.finish).evacPin = s.evacPin := rfl
@[simp] theorem State.finish_rstAsserted (s : State) :
    (s.finish).rstAsserted = s.rstAsserted := rfl
@[simp] theorem State.finish_warmResetDue (s : State) :
    (s.finish).warmResetDue = s.warmResetDue := rfl
@[simp] theorem State.finish_pending (s : State) :
    (s.finish).pending = s.pending := rfl


/-! ### State.sendWithdraw -/
@[simp] theorem State.sendWithdraw_table (s : State) (n : Lane) :
    (s.sendWithdraw n).table = s.table := rfl
@[simp] theorem State.sendWithdraw_pendingCount (s : State) (n : Lane) :
    (s.sendWithdraw n).pendingCount = s.pendingCount := rfl
@[simp] theorem State.sendWithdraw_classes (s : State) (n : Lane) :
    (s.sendWithdraw n).classes = s.classes := rfl
@[simp] theorem State.sendWithdraw_zones (s : State) (n : Lane) :
    (s.sendWithdraw n).zones = s.zones := rfl
@[simp] theorem State.sendWithdraw_clock (s : State) (n : Lane) :
    (s.sendWithdraw n).clock = s.clock := rfl
@[simp] theorem State.sendWithdraw_contexts (s : State) (n : Lane) :
    (s.sendWithdraw n).contexts = s.contexts := rfl
@[simp] theorem State.sendWithdraw_pointer (s : State) (n : Lane) :
    (s.sendWithdraw n).pointer = s.pointer := rfl
@[simp] theorem State.sendWithdraw_turn (s : State) (n : Lane) :
    (s.sendWithdraw n).turn = s.turn := rfl
@[simp] theorem State.sendWithdraw_chosen (s : State) (n : Lane) :
    (s.sendWithdraw n).chosen = s.chosen := rfl
@[simp] theorem State.sendWithdraw_restarting (s : State) (n : Lane) :
    (s.sendWithdraw n).restarting = s.restarting := rfl
@[simp] theorem State.sendWithdraw_commands (s : State) (n : Lane) :
    (s.sendWithdraw n).commands = s.commands ++ [.withdraw n] := rfl
@[simp] theorem State.sendWithdraw_lanes (s : State) (n : Lane) :
    (s.sendWithdraw n).lanes = s.lanes := rfl
@[simp] theorem State.sendWithdraw_journal (s : State) (n : Lane) :
    (s.sendWithdraw n).journal = s.journal := rfl
@[simp] theorem State.sendWithdraw_nextSeq (s : State) (n : Lane) :
    (s.sendWithdraw n).nextSeq = s.nextSeq := rfl
@[simp] theorem State.sendWithdraw_watermark (s : State) (n : Lane) :
    (s.sendWithdraw n).watermark = s.watermark := rfl
@[simp] theorem State.sendWithdraw_attn (s : State) (n : Lane) :
    (s.sendWithdraw n).attn = s.attn := rfl
@[simp] theorem State.sendWithdraw_gc (s : State) (n : Lane) :
    (s.sendWithdraw n).gc = s.gc := rfl
@[simp] theorem State.sendWithdraw_ports (s : State) (n : Lane) :
    (s.sendWithdraw n).ports = s.ports := rfl
@[simp] theorem State.sendWithdraw_uplink (s : State) (n : Lane) :
    (s.sendWithdraw n).uplink = s.uplink := rfl
@[simp] theorem State.sendWithdraw_evacPin (s : State) (n : Lane) :
    (s.sendWithdraw n).evacPin = s.evacPin := rfl
@[simp] theorem State.sendWithdraw_rstAsserted (s : State) (n : Lane) :
    (s.sendWithdraw n).rstAsserted = s.rstAsserted := rfl
@[simp] theorem State.sendWithdraw_warmResetDue (s : State) (n : Lane) :
    (s.sendWithdraw n).warmResetDue = s.warmResetDue := rfl
@[simp] theorem State.sendWithdraw_pending (s : State) (n : Lane) :
    (s.sendWithdraw n).pending = s.pending := rfl


/-! ### State.finishUplink -/
@[simp] theorem State.finishUplink_table (s : State) (r : UplinkRequest) (a : Answer) :
    (s.finishUplink r a).table = s.table := rfl
@[simp] theorem State.finishUplink_pendingCount (s : State) (r : UplinkRequest) (a : Answer) :
    (s.finishUplink r a).pendingCount = s.pendingCount := rfl
@[simp] theorem State.finishUplink_classes (s : State) (r : UplinkRequest) (a : Answer) :
    (s.finishUplink r a).classes = s.classes := rfl
@[simp] theorem State.finishUplink_zones (s : State) (r : UplinkRequest) (a : Answer) :
    (s.finishUplink r a).zones = s.zones := rfl
@[simp] theorem State.finishUplink_clock (s : State) (r : UplinkRequest) (a : Answer) :
    (s.finishUplink r a).clock = s.clock := rfl
@[simp] theorem State.finishUplink_contexts (s : State) (r : UplinkRequest) (a : Answer) :
    (s.finishUplink r a).contexts = s.contexts := rfl
@[simp] theorem State.finishUplink_pointer (s : State) (r : UplinkRequest) (a : Answer) :
    (s.finishUplink r a).pointer = s.pointer := rfl
@[simp] theorem State.finishUplink_turn (s : State) (r : UplinkRequest) (a : Answer) :
    (s.finishUplink r a).turn = .lane := rfl
@[simp] theorem State.finishUplink_chosen (s : State) (r : UplinkRequest) (a : Answer) :
    (s.finishUplink r a).chosen = none := rfl
@[simp] theorem State.finishUplink_restarting (s : State) (r : UplinkRequest) (a : Answer) :
    (s.finishUplink r a).restarting = s.restarting := rfl
@[simp] theorem State.finishUplink_commands (s : State) (r : UplinkRequest) (a : Answer) :
    (s.finishUplink r a).commands = s.commands := rfl
@[simp] theorem State.finishUplink_lanes (s : State) (r : UplinkRequest) (a : Answer) :
    (s.finishUplink r a).lanes = s.lanes := rfl
@[simp] theorem State.finishUplink_journal (s : State) (r : UplinkRequest) (a : Answer) :
    (s.finishUplink r a).journal = s.journal := rfl
@[simp] theorem State.finishUplink_nextSeq (s : State) (r : UplinkRequest) (a : Answer) :
    (s.finishUplink r a).nextSeq = s.nextSeq := rfl
@[simp] theorem State.finishUplink_watermark (s : State) (r : UplinkRequest) (a : Answer) :
    (s.finishUplink r a).watermark = s.watermark := rfl
@[simp] theorem State.finishUplink_attn (s : State) (r : UplinkRequest) (a : Answer) :
    (s.finishUplink r a).attn = s.attn := rfl
@[simp] theorem State.finishUplink_gc (s : State) (r : UplinkRequest) (a : Answer) :
    (s.finishUplink r a).gc = s.gc := rfl
@[simp] theorem State.finishUplink_ports (s : State) (r : UplinkRequest) (a : Answer) :
    (s.finishUplink r a).ports = s.ports := rfl
@[simp] theorem State.finishUplink_uplink (s : State) (r : UplinkRequest) (a : Answer) :
    (s.finishUplink r a).uplink = { s.uplink with
        slot := .replying r, replies := s.uplink.replies ++ [⟨r.type, a.status, a.payload⟩] } := rfl
@[simp] theorem State.finishUplink_evacPin (s : State) (r : UplinkRequest) (a : Answer) :
    (s.finishUplink r a).evacPin = s.evacPin := rfl
@[simp] theorem State.finishUplink_rstAsserted (s : State) (r : UplinkRequest) (a : Answer) :
    (s.finishUplink r a).rstAsserted = s.rstAsserted := rfl
@[simp] theorem State.finishUplink_warmResetDue (s : State) (r : UplinkRequest) (a : Answer) :
    (s.finishUplink r a).warmResetDue = s.warmResetDue := rfl
@[simp] theorem State.finishUplink_pending (s : State) (r : UplinkRequest) (a : Answer) :
    (s.finishUplink r a).pending = s.pending := rfl


/-! ### State.finishLaneRequest -/
@[simp] theorem State.finishLaneRequest_table (s : State) (n : Lane) (r : LaneReply) :
    (s.finishLaneRequest n r).table = s.table := rfl
@[simp] theorem State.finishLaneRequest_pendingCount (s : State) (n : Lane) (r : LaneReply) :
    (s.finishLaneRequest n r).pendingCount = s.pendingCount := rfl
@[simp] theorem State.finishLaneRequest_classes (s : State) (n : Lane) (r : LaneReply) :
    (s.finishLaneRequest n r).classes = s.classes := rfl
@[simp] theorem State.finishLaneRequest_zones (s : State) (n : Lane) (r : LaneReply) :
    (s.finishLaneRequest n r).zones = s.zones := rfl
@[simp] theorem State.finishLaneRequest_clock (s : State) (n : Lane) (r : LaneReply) :
    (s.finishLaneRequest n r).clock = s.clock := rfl
@[simp] theorem State.finishLaneRequest_contexts (s : State) (n : Lane) (r : LaneReply) :
    (s.finishLaneRequest n r).contexts = s.contexts := rfl
@[simp] theorem State.finishLaneRequest_pointer (s : State) (n : Lane) (r : LaneReply) :
    (s.finishLaneRequest n r).pointer = n.next := rfl
@[simp] theorem State.finishLaneRequest_turn (s : State) (n : Lane) (r : LaneReply) :
    (s.finishLaneRequest n r).turn = .uplink := rfl
@[simp] theorem State.finishLaneRequest_chosen (s : State) (n : Lane) (r : LaneReply) :
    (s.finishLaneRequest n r).chosen = none := rfl
@[simp] theorem State.finishLaneRequest_restarting (s : State) (n : Lane) (r : LaneReply) :
    (s.finishLaneRequest n r).restarting = s.restarting := rfl
@[simp] theorem State.finishLaneRequest_commands (s : State) (n : Lane) (r : LaneReply) :
    (s.finishLaneRequest n r).commands = s.commands := rfl
@[simp] theorem State.finishLaneRequest_lanes (s : State) (n : Lane) (r : LaneReply) :
    (s.finishLaneRequest n r).lanes = s.lanes := rfl
@[simp] theorem State.finishLaneRequest_journal (s : State) (n : Lane) (r : LaneReply) :
    (s.finishLaneRequest n r).journal = s.journal := rfl
@[simp] theorem State.finishLaneRequest_nextSeq (s : State) (n : Lane) (r : LaneReply) :
    (s.finishLaneRequest n r).nextSeq = s.nextSeq := rfl
@[simp] theorem State.finishLaneRequest_watermark (s : State) (n : Lane) (r : LaneReply) :
    (s.finishLaneRequest n r).watermark = s.watermark := rfl
@[simp] theorem State.finishLaneRequest_attn (s : State) (n : Lane) (r : LaneReply) :
    (s.finishLaneRequest n r).attn = s.attn := rfl
@[simp] theorem State.finishLaneRequest_gc (s : State) (n : Lane) (r : LaneReply) :
    (s.finishLaneRequest n r).gc = s.gc := rfl
@[simp] theorem State.finishLaneRequest_ports (s : State) (n : Lane) (r : LaneReply) :
    (s.finishLaneRequest n r).ports = s.ports.set n { (s.ports.get n).place r with request := .empty } := rfl
@[simp] theorem State.finishLaneRequest_uplink (s : State) (n : Lane) (r : LaneReply) :
    (s.finishLaneRequest n r).uplink = s.uplink := rfl
@[simp] theorem State.finishLaneRequest_evacPin (s : State) (n : Lane) (r : LaneReply) :
    (s.finishLaneRequest n r).evacPin = s.evacPin := rfl
@[simp] theorem State.finishLaneRequest_rstAsserted (s : State) (n : Lane) (r : LaneReply) :
    (s.finishLaneRequest n r).rstAsserted = s.rstAsserted := rfl
@[simp] theorem State.finishLaneRequest_warmResetDue (s : State) (n : Lane) (r : LaneReply) :
    (s.finishLaneRequest n r).warmResetDue = s.warmResetDue := rfl
@[simp] theorem State.finishLaneRequest_pending (s : State) (n : Lane) (r : LaneReply) :
    (s.finishLaneRequest n r).pending = s.pending := rfl


/-! ### State.append -/
@[simp] theorem State.append_table (s : State) (k : Kind) (o : Source) (w : VenueTime) (f : Option RecordFields) :
    (s.append k o w f).table = s.table := rfl
@[simp] theorem State.append_pendingCount (s : State) (k : Kind) (o : Source) (w : VenueTime) (f : Option RecordFields) :
    (s.append k o w f).pendingCount = s.pendingCount := rfl
@[simp] theorem State.append_classes (s : State) (k : Kind) (o : Source) (w : VenueTime) (f : Option RecordFields) :
    (s.append k o w f).classes = s.classes := rfl
@[simp] theorem State.append_zones (s : State) (k : Kind) (o : Source) (w : VenueTime) (f : Option RecordFields) :
    (s.append k o w f).zones = s.zones := rfl
@[simp] theorem State.append_clock (s : State) (k : Kind) (o : Source) (w : VenueTime) (f : Option RecordFields) :
    (s.append k o w f).clock = s.clock := rfl
@[simp] theorem State.append_contexts (s : State) (k : Kind) (o : Source) (w : VenueTime) (f : Option RecordFields) :
    (s.append k o w f).contexts = s.contexts := rfl
@[simp] theorem State.append_pointer (s : State) (k : Kind) (o : Source) (w : VenueTime) (f : Option RecordFields) :
    (s.append k o w f).pointer = s.pointer := rfl
@[simp] theorem State.append_turn (s : State) (k : Kind) (o : Source) (w : VenueTime) (f : Option RecordFields) :
    (s.append k o w f).turn = s.turn := rfl
@[simp] theorem State.append_chosen (s : State) (k : Kind) (o : Source) (w : VenueTime) (f : Option RecordFields) :
    (s.append k o w f).chosen = s.chosen := rfl
@[simp] theorem State.append_restarting (s : State) (k : Kind) (o : Source) (w : VenueTime) (f : Option RecordFields) :
    (s.append k o w f).restarting = s.restarting := rfl
@[simp] theorem State.append_commands (s : State) (k : Kind) (o : Source) (w : VenueTime) (f : Option RecordFields) :
    (s.append k o w f).commands = s.commands := rfl
@[simp] theorem State.append_lanes (s : State) (k : Kind) (o : Source) (w : VenueTime) (f : Option RecordFields) :
    (s.append k o w f).lanes = s.lanes := rfl
@[simp] theorem State.append_journal (s : State) (k : Kind) (o : Source) (w : VenueTime) (f : Option RecordFields) :
    (s.append k o w f).journal = s.journal ++ [⟨s.nextSeq, k, o, w, f⟩] := rfl
@[simp] theorem State.append_nextSeq (s : State) (k : Kind) (o : Source) (w : VenueTime) (f : Option RecordFields) :
    (s.append k o w f).nextSeq = s.nextSeq + 1 := rfl
@[simp] theorem State.append_watermark (s : State) (k : Kind) (o : Source) (w : VenueTime) (f : Option RecordFields) :
    (s.append k o w f).watermark = s.watermark := rfl
@[simp] theorem State.append_attn (s : State) (k : Kind) (o : Source) (w : VenueTime) (f : Option RecordFields) :
    (s.append k o w f).attn = (decide (s.watermark ≤ s.journal.length + 1) || decide (0 < s.pendingCount)) := by
  simp [State.append, State.driveAttn, State.attnCondition]
@[simp] theorem State.append_gc (s : State) (k : Kind) (o : Source) (w : VenueTime) (f : Option RecordFields) :
    (s.append k o w f).gc = s.gc := rfl
@[simp] theorem State.append_ports (s : State) (k : Kind) (o : Source) (w : VenueTime) (f : Option RecordFields) :
    (s.append k o w f).ports = s.ports := rfl
@[simp] theorem State.append_uplink (s : State) (k : Kind) (o : Source) (w : VenueTime) (f : Option RecordFields) :
    (s.append k o w f).uplink = s.uplink := rfl
@[simp] theorem State.append_evacPin (s : State) (k : Kind) (o : Source) (w : VenueTime) (f : Option RecordFields) :
    (s.append k o w f).evacPin = s.evacPin := rfl
@[simp] theorem State.append_rstAsserted (s : State) (k : Kind) (o : Source) (w : VenueTime) (f : Option RecordFields) :
    (s.append k o w f).rstAsserted = s.rstAsserted := rfl
@[simp] theorem State.append_warmResetDue (s : State) (k : Kind) (o : Source) (w : VenueTime) (f : Option RecordFields) :
    (s.append k o w f).warmResetDue = s.warmResetDue := rfl
@[simp] theorem State.append_pending (s : State) (k : Kind) (o : Source) (w : VenueTime) (f : Option RecordFields) :
    (s.append k o w f).pending = s.pending := rfl


/-! ### State.closeHold -/
@[simp] theorem State.closeHold_table (s : State) (n : Lane) (e : HoldEnd) (x : Ticket) :
    (s.closeHold n e x).table = s.table := rfl
@[simp] theorem State.closeHold_pendingCount (s : State) (n : Lane) (e : HoldEnd) (x : Ticket) :
    (s.closeHold n e x).pendingCount = s.pendingCount := rfl
@[simp] theorem State.closeHold_classes (s : State) (n : Lane) (e : HoldEnd) (x : Ticket) :
    (s.closeHold n e x).classes = s.classes := rfl
@[simp] theorem State.closeHold_zones (s : State) (n : Lane) (e : HoldEnd) (x : Ticket) :
    (s.closeHold n e x).zones = s.zones := rfl
@[simp] theorem State.closeHold_clock (s : State) (n : Lane) (e : HoldEnd) (x : Ticket) :
    (s.closeHold n e x).clock = s.clock := rfl
@[simp] theorem State.closeHold_contexts (s : State) (n : Lane) (e : HoldEnd) (x : Ticket) :
    (s.closeHold n e x).contexts = s.contexts.set n
        { s.contexts.get n with holdRef := none, lastOutcome := some ⟨e, x⟩ } := rfl
@[simp] theorem State.closeHold_pointer (s : State) (n : Lane) (e : HoldEnd) (x : Ticket) :
    (s.closeHold n e x).pointer = s.pointer := rfl
@[simp] theorem State.closeHold_turn (s : State) (n : Lane) (e : HoldEnd) (x : Ticket) :
    (s.closeHold n e x).turn = s.turn := rfl
@[simp] theorem State.closeHold_chosen (s : State) (n : Lane) (e : HoldEnd) (x : Ticket) :
    (s.closeHold n e x).chosen = s.chosen := rfl
@[simp] theorem State.closeHold_restarting (s : State) (n : Lane) (e : HoldEnd) (x : Ticket) :
    (s.closeHold n e x).restarting = s.restarting := rfl
@[simp] theorem State.closeHold_commands (s : State) (n : Lane) (e : HoldEnd) (x : Ticket) :
    (s.closeHold n e x).commands = s.commands := rfl
@[simp] theorem State.closeHold_lanes (s : State) (n : Lane) (e : HoldEnd) (x : Ticket) :
    (s.closeHold n e x).lanes = s.lanes.set n (s.lanes.get n).endHold := rfl
@[simp] theorem State.closeHold_journal (s : State) (n : Lane) (e : HoldEnd) (x : Ticket) :
    (s.closeHold n e x).journal = s.journal := rfl
@[simp] theorem State.closeHold_nextSeq (s : State) (n : Lane) (e : HoldEnd) (x : Ticket) :
    (s.closeHold n e x).nextSeq = s.nextSeq := rfl
@[simp] theorem State.closeHold_watermark (s : State) (n : Lane) (e : HoldEnd) (x : Ticket) :
    (s.closeHold n e x).watermark = s.watermark := rfl
@[simp] theorem State.closeHold_attn (s : State) (n : Lane) (e : HoldEnd) (x : Ticket) :
    (s.closeHold n e x).attn = s.attn := rfl
@[simp] theorem State.closeHold_gc (s : State) (n : Lane) (e : HoldEnd) (x : Ticket) :
    (s.closeHold n e x).gc = s.gc := rfl
@[simp] theorem State.closeHold_ports (s : State) (n : Lane) (e : HoldEnd) (x : Ticket) :
    (s.closeHold n e x).ports = s.ports := rfl
@[simp] theorem State.closeHold_uplink (s : State) (n : Lane) (e : HoldEnd) (x : Ticket) :
    (s.closeHold n e x).uplink = s.uplink := rfl
@[simp] theorem State.closeHold_evacPin (s : State) (n : Lane) (e : HoldEnd) (x : Ticket) :
    (s.closeHold n e x).evacPin = s.evacPin := rfl
@[simp] theorem State.closeHold_rstAsserted (s : State) (n : Lane) (e : HoldEnd) (x : Ticket) :
    (s.closeHold n e x).rstAsserted = s.rstAsserted := rfl
@[simp] theorem State.closeHold_warmResetDue (s : State) (n : Lane) (e : HoldEnd) (x : Ticket) :
    (s.closeHold n e x).warmResetDue = s.warmResetDue := rfl
@[simp] theorem State.closeHold_pending (s : State) (n : Lane) (e : HoldEnd) (x : Ticket) :
    (s.closeHold n e x).pending = s.pending := rfl


/-! ### What one lane's update leaves at a lane -/
@[simp] theorem LaneUnit.goTo_state (lu : LaneUnit) (st : LaneState) : (lu.goTo st).state = st := rfl
@[simp] theorem LaneUnit.goTo_hold (lu : LaneUnit) (st : LaneState) : (lu.goTo st).hold = lu.hold := rfl
@[simp] theorem LaneUnit.goTo_completion (lu : LaneUnit) (st : LaneState) :
    (lu.goTo st).completion = lu.completion := rfl
@[simp] theorem LaneUnit.goTo_role (lu : LaneUnit) (st : LaneState) : (lu.goTo st).role = lu.role := rfl
@[simp] theorem LaneUnit.goTo_armTimer (lu : LaneUnit) (st : LaneState) :
    (lu.goTo st).armTimer = lu.armTimer := rfl
@[simp] theorem LaneUnit.goTo_accumulator (lu : LaneUnit) (st : LaneState) :
    (lu.goTo st).accumulator = lu.accumulator := rfl
@[simp] theorem LaneUnit.goTo_live (lu : LaneUnit) (st : LaneState) : (lu.goTo st).live = lu.live := rfl
@[simp] theorem LaneUnit.goTo_preload (lu : LaneUnit) (st : LaneState) :
    (lu.goTo st).preload = lu.preload := rfl
@[simp] theorem LaneUnit.goTo_tallies (lu : LaneUnit) (st : LaneState) :
    (lu.goTo st).tallies = lu.tallies := rfl

end Sys2Proof.Machine
end

