-- ==== Sys2Proof/Laws/Table.lean ====
section
/-! SUPPORT. The Admission Table as a list in one canonical form: what each operation reads back as, and that each
keeps the form. -/

namespace Sys2Proof.Machine

/-! ### Reading -/

theorem Table.get?_mem {t : Table} {k : Nat} {r : Record} (h : t.get? k = some r) : (k, r) ∈ t := by
  induction t with
  | nil => simp [Table.get?] at h
  | cons e rest ih =>
    obtain ⟨j, q⟩ := e
    simp only [Table.get?] at h
    split at h
    · cases h; subst_vars; exact List.mem_cons_self
    · exact List.mem_cons_of_mem _ (ih h)

theorem Table.lookup_mem {t : Table} {x : Ticket} {k : Nat} {r : Record} (h : t.lookup x = some (k, r)) :
    (k, r) ∈ t ∧ r.ticket = x := by
  induction t with
  | nil => simp [Table.lookup] at h
  | cons e rest ih =>
    obtain ⟨j, q⟩ := e
    simp only [Table.lookup] at h
    split at h
    · cases h; exact ⟨List.mem_cons_self, by assumption⟩
    · exact ⟨List.mem_cons_of_mem _ (ih h).1, (ih h).2⟩

theorem Table.lookup_eq_none {t : Table} {x : Ticket} : t.lookup x = none ↔ ∀ e ∈ t, e.2.ticket ≠ x := by
  induction t with
  | nil => simp [Table.lookup]
  | cons e rest ih =>
    obtain ⟨j, q⟩ := e
    simp only [Table.lookup]
    split <;> simp_all

/-! ### The canonical form -/

theorem Table.wfFrom_mono {t : Table} {m n : Nat} (h : t.wfFrom n = true) (hm : m ≤ n) :
    t.wfFrom m = true := by
  cases t with
  | nil => rfl
  | cons e rest =>
    simp [Table.wfFrom] at h ⊢
    exact ⟨⟨by omega, h.1.2⟩, h.2⟩

theorem Table.wfFrom_mem {t : Table} {n : Nat} (h : t.wfFrom n = true) {e : Nat × Record} (he : e ∈ t) :
    n ≤ e.1 ∧ e.1 < Config.tableCapacity := by
  induction t generalizing n with
  | nil => simp at he
  | cons x rest ih =>
    obtain ⟨j, q⟩ := x
    simp [Table.wfFrom] at h
    rcases List.mem_cons.mp he with rfl | hr
    · exact h.1
    · have := ih h.2 hr; omega

theorem Table.get?_eq_none_of_lt {t : Table} {n k : Nat} (h : t.wfFrom n = true) (hk : k < n) :
    t.get? k = none := by
  cases hg : t.get? k with
  | none => rfl
  | some r => have := (Table.wfFrom_mem h (Table.get?_mem hg)).1; simp at this; omega

theorem Table.get?_of_mem {t : Table} {n : Nat} (h : t.wfFrom n = true) {k : Nat} {r : Record}
    (hm : (k, r) ∈ t) : t.get? k = some r := by
  induction t generalizing n with
  | nil => simp at hm
  | cons x rest ih =>
    obtain ⟨j, q⟩ := x
    simp [Table.wfFrom] at h
    rcases List.mem_cons.mp hm with he | hr
    · cases he; simp [Table.get?]
    · have := (Table.wfFrom_mem h.2 hr).1
      simp only [Table.get?]
      rw [if_neg (by simp at this; omega)]
      exact ih h.2 hr

theorem Table.get?_iff_mem {t : Table} (h : t.wf = true) {k : Nat} {r : Record} :
    t.get? k = some r ↔ (k, r) ∈ t :=
  ⟨Table.get?_mem, Table.get?_of_mem h⟩

/-- A record found by its number stands in the slot that the lookup gives (R18). -/
theorem Table.get?_of_lookup {t : Table} (h : t.wf = true) {x : Ticket} {k : Nat} {r : Record}
    (hl : t.lookup x = some (k, r)) : t.get? k = some r :=
  Table.get?_of_mem h (Table.lookup_mem hl).1

/-! ### Writing an occupied slot -/

@[simp] theorem Table.get?_set (t : Table) (k j : Nat) (q : Record) :
    (t.set k q).get? j = if k = j then (t.get? k).map fun _ => q else t.get? j := by
  induction t with
  | nil => simp [Table.set, Table.get?]
  | cons e rest ih =>
    obtain ⟨i, r⟩ := e
    by_cases hik : i = k
    · subst hik
      by_cases hij : i = j <;> simp [Table.set, Table.get?, hij]
    · by_cases hkj : k = j
      · subst hkj; simp [Table.set, Table.get?, hik, ih]
      · simp only [Table.set, if_neg hik, Table.get?]
        split
        · simp
        · rw [ih, if_neg hkj]

@[simp] theorem Table.length_set (t : Table) (k : Nat) (q : Record) : (t.set k q).length = t.length := by
  induction t with
  | nil => rfl
  | cons e rest ih => simp only [Table.set]; split <;> simp [ih]

theorem Table.wfFrom_set {t : Table} {n : Nat} (h : t.wfFrom n = true) (k : Nat) (q : Record) :
    (t.set k q).wfFrom n = true := by
  induction t generalizing n with
  | nil => rfl
  | cons e rest ih =>
    obtain ⟨i, r⟩ := e
    simp [Table.wfFrom] at h
    simp only [Table.set]
    split <;> simp [Table.wfFrom, h, ih h.2]

/-- Writing an occupied slot keeps the canonical form. -/
theorem Table.wf_set {t : Table} (h : t.wf = true) (k : Nat) (q : Record) : (t.set k q).wf = true :=
  Table.wfFrom_set h k q

/-! ### The lowest free slot -/

theorem Table.lowestFreeFrom_spec {t : Table} {n : Nat} (h : t.wfFrom n = true) :
    n ≤ t.lowestFreeFrom n ∧ t.lowestFreeFrom n ≤ n + t.length ∧ t.get? (t.lowestFreeFrom n) = none ∧
      ∀ k, n ≤ k → k < t.lowestFreeFrom n → t.get? k ≠ none := by
  induction t generalizing n with
  | nil => simp [Table.lowestFreeFrom, Table.get?]
  | cons e rest ih =>
    obtain ⟨j, q⟩ := e
    simp [Table.wfFrom] at h
    simp only [Table.lowestFreeFrom]
    split
    · subst_vars
      obtain ⟨h1, h2, h3, h4⟩ := ih h.2
      refine ⟨by omega, by simp; omega, ?_, fun k hk hlt => ?_⟩
      · rw [Table.get?, if_neg (by omega)]; exact h3
      · rw [Table.get?]
        split
        · simp
        · exact h4 k (by omega) hlt
    · refine ⟨le_refl _, Nat.le_add_right _ _, ?_, fun k hk hlt => absurd hlt (by omega)⟩
      rw [Table.get?, if_neg (by omega)]
      exact Table.get?_eq_none_of_lt h.2 (by omega)

/-- The lowest free slot is free, every slot below it is occupied, and it lies within the capacity while the table is
not full (R19). -/
theorem Table.lowestFree_spec {t : Table} (h : t.wf = true) :
    t.get? t.lowestFree = none ∧ (∀ k < t.lowestFree, t.get? k ≠ none) ∧ t.lowestFree ≤ t.length := by
  obtain ⟨-, h2, h3, h4⟩ := Table.lowestFreeFrom_spec h
  exact ⟨h3, fun k hk => h4 k (by omega) hk, by simpa [Table.lowestFree] using h2⟩

/-! ### Inserting -/

@[simp] theorem Table.length_insert (t : Table) (k : Nat) (q : Record) :
    (Table.insert t k q).length = t.length + 1 := by
  induction t with
  | nil => rfl
  | cons e rest ih => simp only [Table.insert]; split <;> simp [ih]

theorem Table.get?_insert {t : Table} {n k : Nat} (h : t.wfFrom n = true) (hk : t.get? k = none)
    (q : Record) (j : Nat) : (Table.insert t k q).get? j = if k = j then some q else t.get? j := by
  induction t generalizing n with
  | nil => simp [Table.insert, Table.get?]
  | cons e rest ih =>
    obtain ⟨i, r⟩ := e
    simp [Table.wfFrom] at h
    have hik : i ≠ k := by rintro rfl; simp [Table.get?] at hk
    simp only [Table.insert]
    split
    · simp only [Table.get?]
    · have hk' : Table.get? rest k = none := by simpa [Table.get?, hik] using hk
      have hih := ih h.2 hk'
      by_cases hij : i = j
      · subst hij; simp [Table.get?, Ne.symm hik]
      · simp [Table.get?, hij, hih]

theorem Table.wfFrom_insert {t : Table} {n k : Nat} (h : t.wfFrom n = true) (hn : n ≤ k)
    (hc : k < Config.tableCapacity) (hk : t.get? k = none) (q : Record) :
    (Table.insert t k q).wfFrom n = true := by
  induction t generalizing n with
  | nil => simp [Table.insert, Table.wfFrom, hn, hc]
  | cons e rest ih =>
    obtain ⟨i, r⟩ := e
    simp [Table.wfFrom] at h
    have hik : i ≠ k := by rintro rfl; simp [Table.get?] at hk
    have hk' : Table.get? rest k = none := by simpa [Table.get?, hik] using hk
    simp only [Table.insert]
    split
    · simp [Table.wfFrom, hn, hc, h]; omega
    · simp [Table.wfFrom, h]; exact ih h.2 (by omega) hk'

/-- Inserting into a free slot within the capacity keeps the canonical form. -/
theorem Table.wf_insert {t : Table} {k : Nat} (h : t.wf = true) (hc : k < Config.tableCapacity)
    (hk : t.get? k = none) (q : Record) : Table.wf (Table.insert t k q) = true :=
  Table.wfFrom_insert h (Nat.zero_le k) hc hk q

/-! ### Freeing a slot -/

theorem Table.wfFrom_erase {t : Table} {n : Nat} (h : t.wfFrom n = true) (k : Nat) :
    Table.wfFrom (Table.erase t k) n = true := by
  induction t generalizing n with
  | nil => rfl
  | cons e rest ih =>
    obtain ⟨i, r⟩ := e
    simp [Table.wfFrom] at h
    simp only [Table.erase]
    split
    · exact Table.wfFrom_mono h.2 (by omega)
    · simp [Table.wfFrom, h, ih h.2]

/-- Freeing a slot keeps the canonical form. -/
theorem Table.wf_erase {t : Table} (h : t.wf = true) (k : Nat) : Table.wf (Table.erase t k) = true :=
  Table.wfFrom_erase h k

theorem Table.get?_erase {t : Table} {n : Nat} (h : t.wfFrom n = true) (k j : Nat) :
    Table.get? (Table.erase t k) j = if k = j then none else t.get? j := by
  induction t generalizing n with
  | nil => simp [Table.erase, Table.get?]
  | cons e rest ih =>
    obtain ⟨i, r⟩ := e
    simp [Table.wfFrom] at h
    by_cases hik : i = k
    · subst hik
      by_cases hij : i = j
      · subst hij
        simp [Table.erase, Table.get?_eq_none_of_lt h.2 (Nat.lt_succ_self i)]
      · simp [Table.erase, Table.get?, hij]
    · by_cases hij : i = j
      · subst hij; simp [Table.erase, Table.get?, hik, Ne.symm hik]
      · simp [Table.erase, Table.get?, hik, hij, ih h.2]

theorem Table.length_erase {t : Table} {k : Nat} {r : Record} (h : t.get? k = some r) :
    (Table.erase t k).length + 1 = t.length := by
  induction t with
  | nil => simp [Table.get?] at h
  | cons e rest ih =>
    obtain ⟨i, q⟩ := e
    simp only [Table.get?] at h
    simp only [Table.erase]
    split
    · simp
    · rw [if_neg (by assumption)] at h; simp [ih h]

/-- The table after power-on reset has the canonical form. -/
theorem Table.wf_reset : State.reset.table.wf = true := rfl

end Sys2Proof.Machine
end

