-- ==== Sys2Proof/Laws/Ops.lean ====
section
/-! SUPPORT. Each shared operation once: everything it can do, for the proofs to cite in place of unfolding it. -/

namespace Sys2Proof.Machine

/-! ### Zones -/

theorem State.modifyReservedZone_some (s : State) (h : Hold) (f : ZoneRecord → ZoneRecord) (z : ZoneNo)
    (hz : h.reservedZone = some z) : s.modifyReservedZone h f = s.modifyZone z f := by
  simp [State.modifyReservedZone, hz]

theorem State.modifyReservedZone_none (s : State) (h : Hold) (f : ZoneRecord → ZoneRecord)
    (hz : h.reservedZone = none) : s.modifyReservedZone h f = s := by
  simp [State.modifyReservedZone, hz]

/-- A change of a hold's reserved zone changes that zone alone. -/
theorem State.modifyReservedZone_eq (s : State) (h : Hold) (f : ZoneRecord → ZoneRecord) :
    s.modifyReservedZone h f
      = { s with zones := (s.modifyReservedZone h f).zones } ∧
    ∀ z, (s.modifyReservedZone h f).zones.get z
      = if h.reservedZone = some z then f (s.zones.get z) else s.zones.get z := by
  cases hz : h.reservedZone with
  | none => simp [State.modifyReservedZone_none _ _ _ hz]
  | some z =>
    rw [State.modifyReservedZone_some _ _ _ z hz]
    refine ⟨rfl, fun y => ?_⟩
    by_cases hy : z = y
    · subst hy; simp
    · simp [hy]

/-- Counting a person in raises the occupancy by 1, saturating at 65,535 (R47). -/
theorem ZoneRecord.countIn_eq (z : ZoneRecord) :
    z.countIn = { z with occupancy := BitVec.ofNat 16 (min (z.occupancy.toNat + 1) 65535) } := by
  unfold ZoneRecord.countIn
  congr 1
  apply BitVec.eq_of_toNat_eq
  have := z.occupancy.isLt
  split
  · rename_i h; simp [h]
  · rename_i h
    have : z.occupancy.toNat ≠ 65535 := fun h' => h (by apply BitVec.eq_of_toNat_eq; simpa using h')
    simp; omega

/-- Counting a person out lowers the occupancy by 1, saturating at 0 (R47). -/
theorem ZoneRecord.countOut_eq (z : ZoneRecord) :
    z.countOut = { z with occupancy := BitVec.ofNat 16 (z.occupancy.toNat - 1) } := by
  unfold ZoneRecord.countOut
  congr 1
  apply BitVec.eq_of_toNat_eq
  have := z.occupancy.isLt
  split
  · rename_i h; simp [h]
  · rename_i h
    have : z.occupancy.toNat ≠ 0 := fun h' => h (by apply BitVec.eq_of_toNat_eq; simpa using h')
    simp; omega

/-- Raising the entries used adds 1, saturating at 15 (R21). -/
theorem raiseEntries_val (e : Fin 16) : (raiseEntries e).val = min (e.val + 1) 15 := by
  revert e; decide

/-! ### The journal and the reports owed -/

/-- Owing a report writes the flag of the slot's record, counts it once and drives ATTN; on a record that owes one
already, and on a free slot, it changes nothing (R30, R159). -/
theorem State.flagPending_cases (s : State) (slot : Nat) :
    (∃ r, s.table.get? slot = some r ∧ r.pendingReport = false ∧
      s.flagPending slot =
        State.driveAttn
          { s.setRecord slot { r with pendingReport := true } with pendingCount := s.pendingCount + 1 }) ∨
    ((∀ r, s.table.get? slot = some r → r.pendingReport = true) ∧ s.flagPending slot = s) := by
  unfold State.flagPending
  cases hr : s.table.get? slot with
  | none => exact .inr ⟨by simp, rfl⟩
  | some r =>
    by_cases hp : r.pendingReport = true
    · exact .inr ⟨by simpa using hp, by simp [hp]⟩
    · exact .inl ⟨r, rfl, by simpa using hp, by simp [hp]⟩

/-- A record-bearing entry with room is appended; without room its record owes a report (R159, R161). -/
theorem State.report_cases (s : State) (slot : Nat) (r : Record) (kind : Kind) (source : Source)
    (time : VenueTime) (zone : ZoneNo) :
    (s.journal.length < Config.journalCapacity ∧
      s.report slot r kind source time zone = s.append kind source time (some (r.fields zone))) ∨
    (Config.journalCapacity ≤ s.journal.length ∧
      s.report slot r kind source time zone = s.flagPending slot) := by
  unfold State.report State.journalHasRoom
  by_cases h : s.journal.length < Config.journalCapacity
  · exact .inl ⟨h, by simp [h]⟩
  · exact .inr ⟨by omega, by simp [h]⟩

/-- A record-less entry with room is appended; without room nothing changes (R160). -/
theorem State.reportRecordless_cases (s : State) (kind : Kind) (source : Source) (time : VenueTime) :
    (s.journal.length < Config.journalCapacity ∧
      s.reportRecordless kind source time = s.append kind source time none) ∨
    (Config.journalCapacity ≤ s.journal.length ∧ s.reportRecordless kind source time = s) := by
  unfold State.reportRecordless State.journalHasRoom
  by_cases h : s.journal.length < Config.journalCapacity
  · exact .inl ⟨h, by simp [h]⟩
  · exact .inr ⟨by omega, by simp [h]⟩

/-- A report changes nothing but the table, the pending count, the journal, the next number and ATTN. -/
theorem State.report_frame (s : State) (slot : Nat) (r : Record) (kind : Kind) (source : Source)
    (time : VenueTime) (zone : ZoneNo) (t : State) (ht : s.report slot r kind source time zone = t) :
    t = { s with
      table := t.table, pendingCount := t.pendingCount, journal := t.journal, nextSeq := t.nextSeq,
      attn := t.attn } := by
  subst ht
  rcases State.report_cases s slot r kind source time zone with ⟨-, h⟩ | ⟨-, h⟩
  · rw [h]; rfl
  · rw [h]
    rcases State.flagPending_cases s slot with ⟨q, -, -, h⟩ | ⟨-, h⟩
    · rw [h]; rfl
    · rw [h]

/-- What a report leaves about the record in its slot: the record, which owes a report when the journal is full; the
other slots; and the journal, the next number and the pending count (R157, R159, R161). -/
theorem State.report_spec (s u : State) (slot : Nat) (r : Record) (kind : Kind) (source : Source)
    (time : VenueTime) (zone : ZoneNo) (hr : u.table.get? slot = some r)
    (hu : u.journal = s.journal ∧ u.nextSeq = s.nextSeq ∧ u.pendingCount = s.pendingCount) :
    (u.report slot r kind source time zone).table.get? slot
        = some { r with pendingReport := r.pendingReport || decide (1024 ≤ s.journal.length) } ∧
      (∀ k, k ≠ slot →
        (u.report slot r kind source time zone).table.get? k = u.table.get? k) ∧
      s.Reports (u.report slot r kind source time zone) slot kind source time zone r.pendingReport := by
  have hl : u.journal.length = s.journal.length := by rw [hu.1]
  rcases State.report_cases u slot r kind source time zone with ⟨hj, h⟩ | ⟨hj, h⟩ <;> rw [h] <;>
    simp only [Config.journalCapacity, hl] at hj
  · have hn : ¬1024 ≤ s.journal.length := by omega
    refine ⟨by simp [hn, hr], fun k hk => by simp, ?_⟩
    rw [State.Reports, if_pos hj]
    simp [hr, hu, Record.fields]
  · rw [State.Reports, if_neg (by omega)]
    rcases State.flagPending_cases u slot with ⟨q, hq, hp, h2⟩ | ⟨hp, h2⟩ <;> rw [h2]
    · rw [hr] at hq
      cases hq
      exact ⟨by simp [hr, hj], fun k hk => by simp [Ne.symm hk], by simp [hu, hp]⟩
    · have hp := hp _ hr
      refine ⟨?_, fun k hk => rfl, by simp [hu, hp]⟩
      rw [hr, hp, Bool.true_or, ← hp]

/-! ### Taking a service -/

/-- The item that may be taken is the chosen one, at a running part (R60, R180, R205). -/
theorem State.serving_eq_some (s : State) (i : Service) :
    s.serving = some i ↔ s.rstAsserted = false ∧ s.restarting = false ∧ s.chosen = some i := by
  unfold State.serving
  cases s.rstAsserted <;> cases s.restarting <;> simp

/-- The lane request in service (R188). -/
theorem State.laneRequestInService_eq_some (s : State) (n : Lane) (q : LaneRequest) :
    s.laneRequestInService = some (n, q) ↔
      s.serving = some (.laneRequest n) ∧ (s.ports.get n).request = .inService q := by
  unfold State.laneRequestInService
  split
  · rename_i m hm
    rw [hm]
    constructor
    · split
      · rename_i r hr
        rintro h; cases h; exact ⟨rfl, hr⟩
      · simp
    · rintro ⟨h, hq⟩
      cases h
      simp [hq]
  · rename_i hm
    constructor
    · simp
    · rintro ⟨h, -⟩; exact absurd h (hm n)

/-- The uplink request in service (R199). -/
theorem State.uplinkRequestInService_eq_some (s : State) (r : UplinkRequest) :
    s.uplinkRequestInService = some r ↔
      s.serving = some .uplinkRequest ∧ s.uplink.slot = .inService r := by
  unfold State.uplinkRequestInService
  split
  · rename_i h1 h2; simp [h1, h2]
  · rename_i h
    constructor
    · simp
    · rintro ⟨h1, h2⟩; exact (h r h1 h2).elim

/-- A served uplink request either is the one in service, and its answer is placed, or the state stays. -/
theorem State.serveUplink_cases (s : State) (k : UplinkKind)
    (serve : State → List Byte → State × Answer) :
    (∃ r, s.serving = some .uplinkRequest ∧ s.uplink.slot = .inService r ∧ r.kind = k ∧
      s.serveUplink k serve = (serve s r.payload).1.finishUplink r (serve s r.payload).2) ∨
    s.serveUplink k serve = s := by
  unfold State.serveUplink
  cases hr : s.uplinkRequestInService with
  | none => exact .inr rfl
  | some r =>
    have := (State.uplinkRequestInService_eq_some s r).mp hr
    by_cases hk : r.kind = k
    · exact .inl ⟨r, this.1, this.2, hk, by simp [hk]⟩
    · exact .inr (by simp [hk])

/-- A request of the right kind in service is served. -/
theorem State.serveUplink_of_kind (s : State) (k : UplinkKind)
    (serve : State → List Byte → State × Answer) (r : UplinkRequest) (hs : s.serving = some .uplinkRequest)
    (hr : s.uplink.slot = .inService r) (hk : r.kind = k) :
    s.serveUplink k serve = (serve s r.payload).1.finishUplink r (serve s r.payload).2 := by
  unfold State.serveUplink
  rw [(State.uplinkRequestInService_eq_some s r).mpr ⟨hs, hr⟩]
  simp [hk]

/-- A request of another kind is not served. -/
theorem State.serveUplink_of_other (s : State) (k : UplinkKind)
    (serve : State → List Byte → State × Answer)
    (h : ∀ r, s.serving = some .uplinkRequest → s.uplink.slot = .inService r → r.kind ≠ k) :
    s.serveUplink k serve = s := by
  rcases State.serveUplink_cases s k serve with ⟨r, h1, h2, h3, -⟩ | h'
  · exact absurd h3 (h r h1 h2)
  · exact h'

theorem Record.hold?_eq_some (r : Record) (h : Hold) : r.hold? = some h ↔ r.state = .held h := by
  unfold Record.hold?
  cases r.state <;> simp

/-- The record that a lane holds is the one its context names (R69). -/
theorem State.heldAt_eq_some (s : State) (n : Lane) (slot : Nat) (r : Record) (h : Hold) :
    s.heldAt n = some (slot, r, h) ↔
      ∃ ref, (s.contexts.get n).holdRef = some ref ∧ ref.slot = slot ∧ s.table.get? slot = some r ∧
        r.state = .held h := by
  unfold State.heldAt
  cases (s.contexts.get n).holdRef with
  | none => simp
  | some ref =>
    constructor
    · intro h1
      cases hg : s.table.get? ref.slot with
      | none => simp [hg] at h1
      | some q =>
        simp only [hg, Option.map_eq_some_iff, Record.hold?_eq_some] at h1
        obtain ⟨h', hq, he⟩ := h1
        cases he
        exact ⟨ref, rfl, rfl, hg, hq⟩
    · rintro ⟨ref', he, rfl, h3, h4⟩
      cases he
      simp [h3, (Record.hold?_eq_some r h).mpr h4]

/-- An uplink request's service ends as `State.replied` says (R65, R199, R200). -/
theorem State.finishUplink_eq_replied (s : State) (r : UplinkRequest) (a : Answer) :
    s.finishUplink r a = s.replied r.type r.payload a.status a.payload := rfl

/-- A lane request's service ends as `State.repliedLane` says (R64, R65, R188, R191). -/
theorem State.finishLaneRequest_eq_repliedLane (s : State) (n : Lane) (r : LaneReply) :
    s.finishLaneRequest n r = s.repliedLane n r := by
  unfold State.finishLaneRequest State.repliedLane Port.place LaneReply.withOverrun Transfer.overtake
  cases r <;> cases (s.ports.get n).transfer <;> rfl

/-! ### The ends of a hold -/

/-- The lane unit's half of a hold's end (R96, R130). -/
theorem LaneUnit.endHold_eq_released (lu : LaneUnit) : lu.endHold = lu.released := by
  unfold LaneUnit.endHold LaneUnit.settlePreload LaneUnit.released LaneUnit.loadPreload
  by_cases h : lu.accumulator = 0 <;> simp [h]

/-- A non-commit end writes the record and releases the reserved place, and reports a CONFLICT for an entry hold with
a remote mark (R97, R101). -/
theorem State.endNonCommit_cases (s : State) (slot : Nat) (r : Record) (h : Hold) (now : VenueTime) :
    ∃ u, (s.setRecord slot (r.afterNonCommit h)).modifyReservedZone h ZoneRecord.release = u ∧
      ((∃ m, h.direction = .IN ∧ h.remoteMark = some m ∧
        s.endNonCommit slot r h now
          = u.report slot (r.afterNonCommit h) .conflict (.lane h.lane) now
              (h.reservedZone.getD (u.zoneOf (r.afterNonCommit h)))) ∨
      ((h.direction = .OUT ∨ h.remoteMark = none) ∧ s.endNonCommit slot r h now = u)) := by
  refine ⟨_, rfl, ?_⟩
  unfold State.endNonCommit
  cases hd : h.direction <;> cases hm : h.remoteMark <;> simp

/-- A non-commit end leaves the record's number, class, binding and owed report as they are, apart from the report
(R96). -/
theorem Record.afterNonCommit_frame (r : Record) (h : Hold) :
    (r.afterNonCommit h).ticket = r.ticket ∧ (r.afterNonCommit h).cls = r.cls ∧
      (r.afterNonCommit h).binding = r.binding ∧
      (r.afterNonCommit h).pendingReport = r.pendingReport := by
  unfold Record.afterNonCommit
  split <;> exact ⟨rfl, rfl, rfl, rfl⟩

/-! ### Gate events -/

/-- Raising a gate event changes the events held alone (R175). -/
theorem GateController.raise_eq (g : GateController) (e : GateEvent) :
    g.raise e = { g with events := eventsAfter g.events e } := rfl

/-! ### Lane states -/

/-- Going to a lane state drives the locks by the table of R126. -/
theorem LaneUnit.goTo_eq_inState (lu : LaneUnit) (st : LaneState) : lu.goTo st = lu.inState st := by
  have h (a b : LaneState) : (a == b) = decide (a = b) := rfl
  cases st <;>
    simp [LaneUnit.goTo, LaneUnit.driveLocks, LaneUnit.inState, LaneUnit.lockInLevel, LaneUnit.lockOutLevel,
      LaneState.underHold, LaneState.releasesIn, LaneState.releasesOut, h]

/-- FREE at a lane unit clears the overdue mark and releases both locks; at an ARMED or TURNING lane it stops the
timer and raises a withdrawn completion (R109, R125, R173). -/
theorem LaneUnit.takeFree_eq (lu : LaneUnit) :
    lu.takeFree =
      if lu.state.underHold then
        { lu with
          armTimer := none, overdue := false
          completion := lu.completion.or (some .withdrawn) }.inState .free
      else { lu with overdue := false }.inState .free := by
  cases h : lu.state <;>
    simp [LaneUnit.takeFree, h, LaneState.underHold, LaneUnit.goTo_eq_inState, LaneUnit.raise, LaneUnit.inState]

/-- An arm command at a lane unit: LOCKED arms, FREE begins and withdraws the hold, both with the overdue mark
cleared, and no other state is changed (R92, R93, R125). -/
theorem LaneUnit.takeArm_eq (lu : LaneUnit) (d : Side) :
    lu.takeArm d =
      if lu.state = .locked then
        { lu with
          hold := some d, armTimer := some (lu.live.window * Config.ticksPerSecond)
          overdue := false }.inState .armed
      else if lu.state = .free then
        { lu with hold := some d, overdue := false, completion := lu.completion.or (some .withdrawn) }
      else lu := by
  cases h : lu.state <;> simp [LaneUnit.takeArm, h, LaneUnit.goTo_eq_inState, LaneUnit.raise]

/-! ### What the links send -/

/-- A run of bytes with its check byte sums to 0x00 (R185, R197). -/
theorem sum8_append_checkByte (l : List Byte) : sum8 (l ++ [checkByte l]) = 0 := by
  simp [checkByte, sum8, List.foldl_append]

/-- The eleven levels of a character sent (R196). -/
theorem lineLevels_soundCharacter (b : Byte) :
    lineLevels (soundCharacter b) =
      [false, bitAt b 0, bitAt b 1, bitAt b 2, bitAt b 3, bitAt b 4, bitAt b 5, bitAt b 6, bitAt b 7,
        decide (onesOf b % 2 = 1), true] := rfl

/-! ### What is due -/

/-- With nothing due, the tick's settling changes nothing (R125, R172, R178). -/
theorem State.settleDue_of_nothing (s : State) (h1 : ∀ n : Lane, (s.lanes.get n).armTimer ≠ some 0)
    (h2 : s.gc.timeoutDue = false) (h3 : s.gc.evacDue = false) : s.settleDue = s := by
  have hx : ∀ n : Lane, s.settleExpiry n = s := by
    intro n
    have := h1 n
    simp [State.settleExpiry, LaneUnit.expiryDue, this]
  simp [State.settleDue, lanesAscending, hx, State.settleTimeout, h2, State.settleEvac,
    State.evacAssertionDue, State.evacReleaseDue, h3]

/-- With no complete frame in the receiver, there is no arrival to take (R197). -/
theorem State.arrive_of_nothing (s : State) (h : s.uplink.receiver.complete? = none) : s.arrive = s := by
  simp [State.arrive, h]

/-- With nothing due, a reset has nothing to take first. -/
theorem State.settleAll_of_nothing (s : State) (h : s.NothingDue) : s.settleAll = s := by
  obtain ⟨hr, hl, ht, he⟩ := h
  simp [State.settleAll, State.arrive_of_nothing s hr, State.settleDue_of_nothing s hl ht he]

/-- A request handed to the slot leaves the receiver as it is (R199). -/
theorem UplinkPort.takeRequest_receiver (u : UplinkPort) (r : UplinkRequest) :
    (u.takeRequest r).receiver = u.receiver := by
  unfold UplinkPort.takeRequest UplinkPort.answerBusy
  repeat' split
  all_goals rfl

end Sys2Proof.Machine
end

