-- ==== Sys2Proof/Tests/Slice0.lean ====
section
/-! SUPPORT. Tests: worked examples of spec/ as single steps on small states, and for every statement with
hypotheses a concrete state and operands that meet them. Every expected value is taken from the place of spec/ that
the test names. `Instr` has no ill-formed term, so WellFormed has nothing to refuse (see WellFormed.lean). -/

namespace Sys2Proof.Tests

open Sys2Proof.Machine

/-! ### States of the worked sequences -/

/-- The state that a command answers. -/
def after (o : Host.Outcome State Fault Refusal) : State :=
  match o with
  | .next t => t
  | .fault _ => State.reset
  | .refused _ => State.reset

/-- Ticket 4820173550926145 (section 1.7). -/
def ticketA : Ticket := #v[4, 8, 2, 0, 1, 7, 3, 5, 5, 0, 9, 2, 6, 1, 4, 5]

/-- Ticket 5510284936017760 (section 1.7). -/
def ticketB : Ticket := #v[5, 5, 1, 0, 2, 8, 4, 9, 3, 6, 0, 1, 7, 7, 6, 0]

/-- The 18 characters "374820173550926145" (section 1.7). -/
def textA : List Byte :=
  [0x33, 0x37, 0x34, 0x38, 0x32, 0x30, 0x31, 0x37, 0x33, 0x35, 0x35, 0x30, 0x39, 0x32, 0x36, 0x31, 0x34, 0x35]

/-- The card payload of ticket A at event 37 (section 1.7). -/
def payloadA : List Byte := [0x37, 0x48, 0x20, 0x17, 0x35, 0x50, 0x92, 0x61, 0x45]

/-- Ticket A as it travels (R14). -/
def packedA : List Byte := [0x48, 0x20, 0x17, 0x35, 0x50, 0x92, 0x61, 0x45]

/-- Class 4 of section 4.8. -/
def class4 : ClassRecord :=
  { ClassRecord.reset with
    windowOpen := 1000000, windowClose := 1010800, limit := 2, cooldown := 900, zone := 3, laneMask := 63 }

/-- The part of section 4.8: gate OPEN, link ONLINE, event code 37, gate id 7, clock valid at 1,004,000.090; every
lane DUAL and LOCKED at rest. -/
def venue : State :=
  { State.reset with
    classes := State.reset.classes.set 4 class4
    zones := State.reset.zones.set 3 ⟨5000, 2400, 0⟩
    clock := ⟨⟨1004000, 90⟩, true⟩
    lanes := .replicate 6 { LaneUnit.reset with role := .dual, state := .locked }
    gc := { GateController.reset with gate := .opened, link := .online, gateId := 7, eventCode := ⟨3, 7⟩ }
    pointer := 2 }

/-- Ticket A's record of class 4 in a state, with entries used. -/
def recordA (st : RecordState) (entries : Fin 16) : Record := ⟨ticketA, 4, st, entries, none, none, false⟩

/-- The venue with one record, in slot 0. -/
def holding (r : Record) : State := { venue with table := [(0, r)] }

/-- A journal entry without record fields. -/
def forcedEntry (n : Nat) : Entry := ⟨BitVec.ofNat 16 n, .forced, .lane 3, ⟨7200, 0⟩, none⟩

/-- The hold at lane 2 in a direction. -/
def hold2 (d : Side) : Hold :=
  { lane := 2, direction := d, prior := (if d = .IN then .valid else .inside),
    reservedZone := (if d = .IN then some 3 else none),
    uid := none, grantTime := ⟨1004000, 90⟩, remoteMark := none, revokeMark := false }

/-- Lane 2 with a hold in a direction and its lane unit as given; ticket A is HELD in slot 0 with entries used. -/
def heldBy (h : Hold) (entries : Fin 16) (lu : LaneUnit) : State :=
  { holding (recordA (.held h) entries) with
    contexts := venue.contexts.set 2 ⟨some ⟨ticketA, 0⟩, none, 0⟩
    zones := (if h.direction = .IN then venue.zones.set 3 ⟨5000, 2400, 1⟩ else venue.zones)
    lanes := venue.lanes.set 2 lu }

/-- A lane unit ARMED on a hold, 8 s loaded (R92). -/
def armedUnit (d : Side) : LaneUnit :=
  { LaneUnit.reset with
    role := .dual, state := .armed, hold := some d, armTimer := some 2048
    lockIn := d == .IN, lockOut := d == .OUT }

/-- Ticket A HELD for entry at lane 2, ARMED. -/
def armedIn : State := heldBy (hold2 .IN) 0 (armedUnit .IN)

/-- A lane unit TURNING on an entry hold at an accumulator. -/
def turningUnit (a : Int) : LaneUnit := { armedUnit .IN with state := .turning, accumulator := a }

/-- A lane unit LOCKED with a raised completion. -/
def completedUnit (d : Side) (c : Completion) : LaneUnit :=
  { LaneUnit.reset with
    role := .dual, state := .locked, hold := some d, completion := some c, accumulator := 80, counted := true }

/-- A state with its chosen service. -/
def taking (s : State) (item : Service) : State := { s with chosen := some item }

/-- A state about to take an uplink request. -/
def asked (s : State) (type : Byte) (p : List Byte) : State :=
  { taking s .uplinkRequest with uplink := { s.uplink with slot := .inService ⟨type, p⟩ } }

/-- A state about to take a request of lane 2. -/
def laneAsked (s : State) (q : LaneRequest) : State :=
  { taking s (.laneRequest 2) with ports := s.ports.set 2 { s.ports.get 2 with request := .inService q } }

/-- The newest reply in the reply buffer. -/
def lastReply (s : State) : Option UplinkReply := s.uplink.replies.getLast?

/-- The reply that lane 2's reply slot holds. -/
def laneReply (s : State) : Option LaneReply := (s.ports.get 2).reply

/-- The record in slot 0. -/
def slot0 (s : State) : Option Record := s.table.get? 0

/-! ### Ticket numbers and credentials -/

/-- Section 1.7: the check value of ticket A is 5, of ticket B 0, and both are well formed. -/
theorem test_check_values : checkValue ticketA = 5 ∧ checkValue ticketB = 0 ∧
    ticketWellFormed ticketA = true ∧ ticketWellFormed ticketB = true := by decide

/-- Section 1.7: a misread d2 and swapped d14, d15 are caught; swapped d13, d14 are not. -/
theorem test_check_digit_errors :
    ticketWellFormed #v[4, 3, 2, 0, 1, 7, 3, 5, 5, 0, 9, 2, 6, 1, 4, 5] = false ∧
    ticketWellFormed #v[4, 8, 2, 0, 1, 7, 3, 5, 5, 0, 9, 2, 6, 4, 1, 5] = false ∧
    ticketWellFormed #v[4, 8, 2, 0, 1, 7, 3, 5, 5, 0, 9, 2, 1, 6, 4, 5] = true := by decide

/-- R14's example. -/
theorem test_packed_ticket : ticketBytes ticketA = packedA ∧ ticketOfBytes? packedA = some ticketA := by decide

/-- Section 1.8, cases 1 to 8. -/
theorem test_normalize_codes :
    normalizeCode ⟨3, 7⟩ .IN textA = ⟨.code, .IN, .wellFormed, some ⟨3, 7⟩, some ticketA, none⟩ ∧
    (normalizeCode ⟨3, 7⟩ .IN (textA.take 17)).outcome = .malformed ∧
    (normalizeCode ⟨3, 7⟩ .OUT (textA ++ [0x0D])).outcome = .malformed ∧
    (normalizeCode ⟨3, 7⟩ .IN (textA.set 11 0x4F)).outcome = .malformed ∧
    normalizeCode ⟨3, 7⟩ .IN (textA.set 1 0x36) = ⟨.code, .IN, .wrongEvent, some ⟨3, 6⟩, some ticketA, none⟩ ∧
    (normalizeCode ⟨3, 7⟩ .IN ((textA.set 0 0x30).set 1 0x30)).outcome = .wrongEvent ∧
    (normalizeCode ⟨3, 7⟩ .IN (((textA.set 1 0x36).set 15 0x34).set 16 0x31)).outcome = .wrongEvent ∧
    (normalizeCode ⟨3, 7⟩ .IN ((textA.set 15 0x34).set 16 0x31)).outcome = .badCheck := by decide

/-- Section 1.8, cases 9 to 13, and the cluster event code 00. -/
theorem test_normalize_cards :
    normalizeCard ⟨3, 7⟩ .IN [1, 2, 3, 4, 5, 6, 7] payloadA
      = ⟨.card, .IN, .wellFormed, some ⟨3, 7⟩, some ticketA, some [1, 2, 3, 4, 5, 6, 7]⟩ ∧
    (normalizeCard ⟨3, 7⟩ .IN [1, 2, 3, 4, 5] payloadA).outcome = .malformed ∧
    normalizeCard ⟨3, 7⟩ .OUT [1, 2, 3, 4] (payloadA.set 3 0x1A)
      = ⟨.card, .OUT, .malformed, none, none, none⟩ ∧
    (normalizeCard ⟨3, 7⟩ .IN [1, 2, 3, 4, 5, 6, 7, 8, 9, 10] (payloadA.take 8)).outcome = .malformed ∧
    normalizeCard ⟨3, 7⟩ .OUT [1, 2, 3, 4] [0x37, 0x55, 0x10, 0x28, 0x49, 0x36, 0x01, 0x77, 0x60]
      = ⟨.card, .OUT, .wellFormed, some ⟨3, 7⟩, some ticketB, some [1, 2, 3, 4]⟩ ∧
    (normalizeCode ⟨0, 0⟩ .IN textA).outcome = .wrongEvent := by decide

/-! ### The tests of an entry -/

/-- Section 3.7, worked figures: check 14. -/
theorem test_window_figures :
    checkWindow ⟨⟨999999, 255⟩, true⟩ class4 = some .tooEarly ∧
    checkWindow ⟨⟨1000000, 0⟩, true⟩ class4 = none ∧
    checkWindow ⟨⟨1010799, 255⟩, true⟩ class4 = none ∧
    checkWindow ⟨⟨1010800, 0⟩, true⟩ class4 = some .tooLate ∧
    checkWindow ⟨⟨1005000, 0⟩, false⟩ class4 = some .noTime ∧
    checkWindow ⟨⟨1005000, 0⟩, false⟩ { class4 with windowless := true } = none ∧
    checkWindow ⟨⟨1005000, 0⟩, true⟩ { class4 with windowOpen := 1010800, windowClose := 1000000 }
      = some .tooEarly ∧
    checkWindow ⟨⟨1012000, 0⟩, true⟩ { class4 with windowOpen := 1010800, windowClose := 1000000 }
      = some .tooLate := by decide

/-- Section 3.8, worked figures: check 16, cooldown 900 s. -/
theorem test_cooldown_figures :
    let last (s f : Nat) : Record :=
      { recordA .outside 1 with lastPassage := some ⟨⟨BitVec.ofNat 32 s, BitVec.ofNat 8 f⟩, .lane 2⟩ }
    checkCooldown ⟨⟨7800, 0⟩, true⟩ class4 (last 7200 0) = some .cooldown ∧
    checkCooldown ⟨⟨8100, 0⟩, true⟩ class4 (last 7200 0) = none ∧
    checkCooldown ⟨⟨8099, 255⟩, true⟩ class4 (last 7200 250) = some .cooldown ∧
    checkCooldown ⟨⟨8100, 0⟩, true⟩ class4 (last 7200 250) = none ∧
    checkCooldown ⟨⟨7000, 0⟩, true⟩ class4 (last 7200 0) = some .cooldown ∧
    checkCooldown ⟨⟨9000, 0⟩, false⟩ class4 (last 7200 0) = some .cooldown ∧
    checkCooldown ⟨⟨7300, 0⟩, true⟩ class4 (recordA .outside 1) = none ∧
    checkCooldown ⟨⟨100, 0⟩, true⟩ class4 (last 4294967000 0) = some .cooldown := by decide

/-- Section 3.9, worked sequence: headroom at lines 1, 2, 6 and 11, and R58's greatest sum. -/
theorem test_headroom_figures :
    checkHeadroom ⟨5000, 4998, 1⟩ = none ∧ checkHeadroom ⟨5000, 4998, 2⟩ = some .zoneFull ∧
    checkHeadroom ⟨5000, 4999, 0⟩ = none ∧ checkHeadroom ⟨4000, 5000, 0⟩ = some .zoneFull ∧
    checkHeadroom ⟨65535, 65535, 6⟩ = some .zoneFull ∧ checkHeadroom ⟨0, 0, 0⟩ = some .zoneFull := by decide

/-! ### Frames -/

/-- R185's frames: POLL, CANCEL and PRESENT_CODE; and a bad check byte (R187). -/
theorem test_lane_frames :
    LaneRequest.poll.frame = [0x02, 0x44, 0xBA] ∧ LaneRequest.cancel.frame = [0x02, 0x43, 0xBB] ∧
    (LaneRequest.code .IN textA).frame = 0x15 :: 0x41 :: 0x01 :: textA ++ [0x01] ∧
    parseInbound [0x02, 0x44, 0xBA, 0x00] = .request .poll ∧
    parseInbound (0x15 :: 0x41 :: 0x01 :: textA ++ [0x01]) = .request (.code .IN textA) ∧
    parseInbound [0x02, 0x44, 0xBB] = .badFrame ∧ parseInbound [0x00, 0x44] = .noRequest := by decide

/-- Section 10.7: the card frame of line 1. -/
theorem test_card_frame :
    parseInbound ([0x11, 0x42, 0x01, 0x04, 0x9E, 0xA1, 0x3C, 0x7E] ++ payloadA ++ [0x3C])
      = .request (.card .IN [0x9E, 0xA1, 0x3C, 0x7E] payloadA) := by decide

/-! ### Resets, pins and ticks -/

/-- R181: power-on under an asserted EVAC pin. -/
theorem test_power_on_under_evac :
    let t := after (exec (.powerOnReset ⟨true, ⟨true, false⟩, .replicate 6 ⟨true, true⟩, .replicate 6 true⟩) armedIn)
    t.gc.gate = .evac ∧ t.gc.events = [.evacBegin] ∧ t.table = [] ∧ (t.lanes.get 2).state = .free ∧
      (t.lanes.get 2).lockIn = true ∧ (t.lanes.get 2).reference = ⟨true, true⟩ ∧
      (t.ports.get 2).transfer = .ignored ∧ t.uplink.straps = ⟨true, false⟩ := by decide +kernel

/-- Section 9.9, lines 1 and 2: RST asserted, then the EVAC pin. -/
theorem test_rst_and_evac_pin :
    let t := after (exec .rstAssertion armedIn)
    let u := after (exec (.evacPinChange true) t)
    (t.lanes.get 2).lockIn = false ∧ (t.lanes.get 2).state = .armed ∧ t.gc.gate = .opened ∧
      (u.lanes.get 2).lockIn = true ∧ (u.lanes.get 4).lockOut = true ∧ u.gc.gate = .opened := by decide +kernel

/-- Section 9.9, line 3: the warm reset. -/
theorem test_warm_reset_held_evac :
    let t := after (exec (.warmReset ⟨⟨false, false⟩, .replicate 6 ⟨false, true⟩⟩)
      { armedIn with rstAsserted := true, evacPin := true })
    t.gc.gate = .evac ∧ t.gc.events = [.evacBegin, .linkLost] ∧ t.gc.resetCause = .warm ∧
      t.gc.link = .offline ∧ (t.lanes.get 2).state = .free ∧ slot0 t = some (recordA .valid 0) ∧
      t.zones.get 3 = ⟨5000, 2400, 0⟩ := by decide +kernel

/-- Section 2.9, slot 1: ticket A OUTSIDE, HELD at lane 2 with a remote mark, and RST asserted. -/
def marked : Hold := { hold2 .IN with prior := .outside, remoteMark := some ⟨12, ⟨7200, 0⟩⟩ }

/-- The part of section 2.9, slot 1. -/
def markedIn : State := { heldBy marked 1 (turningUnit 40) with rstAsserted := true }

/-- Section 2.9, slot 1: a hold with a remote mark is ended by the reset, with a CONFLICT entry. -/
theorem test_warm_reset_remote_mark :
    let t := after (exec (.warmReset ⟨⟨false, false⟩, .replicate 6 ⟨false, false⟩⟩) markedIn)
    slot0 t = some { recordA .inside 2 with lastPassage := some ⟨⟨7200, 0⟩, .gate 12⟩ } ∧
      t.journal = [⟨0, .conflict, .lane 2, ⟨1004000, 90⟩, some ⟨ticketA, 4, 3, .inside, 2⟩⟩] ∧
      t.zones.get 3 = ⟨5000, 2400, 0⟩ := by decide +kernel

/-- R159: the same reset with a full journal leaves the record owing a report. -/
theorem test_warm_reset_full_journal :
    let t := after (exec (.warmReset ⟨⟨false, false⟩, .replicate 6 ⟨false, false⟩⟩)
      { markedIn with journal := .replicate 1024 (forcedEntry 0) })
    t.pendingCount = 1 ∧ (slot0 t).map (·.pendingReport) = some true ∧ t.attn = true ∧
      t.journal.length = 1024 := by decide +kernel

/-- R51 and section 3.7: the clock's last tick before the wrap; R125: a running timer falls. -/
theorem test_tick :
    (after (exec .venueClockTick { armedIn with clock := ⟨⟨4294967295, 255⟩, true⟩ })).clock
      = ⟨⟨0, 0⟩, true⟩ ∧
    ((after (exec .venueClockTick armedIn)).lanes.get 2).armTimer = some 2047 := by decide +kernel

/-- R172 and R178: the second opposite sample, and the timeout at 2,560 ticks of a 10 s link timeout. -/
theorem test_tick_makes_due :
    (after (exec .venueClockTick { venue with evacPin := true })).gc.evacDue = false ∧
    (after (exec .venueClockTick
      { venue with evacPin := true, gc := { venue.gc with previousSample := true } })).gc.evacDue = true ∧
    (after (exec .venueClockTick { venue with gc := { venue.gc with monitorCount := 2558 } })).gc.timeoutDue
      = false ∧
    (after (exec .venueClockTick { venue with gc := { venue.gc with monitorCount := 2559 } })).gc.timeoutDue
      = true := by decide

/-- Section 9.7, line 1: ARMED and TURNING raise withdrawn, a raised commit is kept. -/
theorem test_evac_assertion :
    let go (lu : LaneUnit) : LaneUnit := (after (exec .evacAssertion
      { heldBy (hold2 .IN) 0 lu with gc := { venue.gc with evacDue := true } })).lanes.get 2
    (go (armedUnit .IN)).completion = some .withdrawn ∧ (go (turningUnit 40)).completion = some .withdrawn ∧
      (go (turningUnit 40)).accumulator = 40 ∧ (go (turningUnit 40)).lockOut = true ∧
      (go (completedUnit .IN (.commit ⟨1004700, 210⟩))).completion = some (.commit ⟨1004700, 210⟩) := by decide +kernel

/-- Section 9.7, line 9. -/
theorem test_evac_release :
    let free (role : Role) : LaneUnit :=
      { LaneUnit.reset with role := role, state := .free, lockIn := true, lockOut := true }
    let t := after (exec .evacRelease
      { venue with
        lanes := #v[free .entry, free .entry, free .entry, free .dual, free .off, free .freeExit]
        gc := { venue.gc with gate := .evac, accepted := true, evacDue := true } })
    t.gc.gate = .closed ∧ t.gc.events = [.evacEnd] ∧ (t.lanes.get 0).state = .locked ∧
      (t.lanes.get 4).state = .closed ∧ (t.lanes.get 5).state = .locked ∧ (t.lanes.get 5).lockOut = true ∧
      (t.lanes.get 0).lockIn = false := by decide +kernel

/-! ### Lane units -/

/-- A lane-2 unit after an encoder event. -/
def turned (lu : LaneUnit) (a b : Bool) : LaneUnit :=
  (after (exec (.encoderEvent 2 ⟨a, b⟩) { venue with lanes := venue.lanes.set 2 lu })).lanes.get 2

/-- Section 6.9, worked sequence of lane 2, lines 1, 2, 4 and 6. -/
theorem test_encoder_forced_turn :
    let entry := { LaneUnit.reset with role := .entry, state := .locked }
    (turned entry true false).accumulator = -1 ∧
      (turned { entry with accumulator := -1, reference := ⟨true, false⟩ } false true).tallies.phase = 1 ∧
      (turned { entry with accumulator := -1, reference := ⟨true, false⟩ } false true).accumulator = -1 ∧
      (turned { entry with accumulator := -71 } true false).counted = true ∧
      (turned { entry with accumulator := -71 } true false).tallies.forced = 1 ∧
      (turned { entry with accumulator := -71 } true false).forcedReports = 1 ∧
      (turned { entry with accumulator := -95, counted := true } true false).accumulator = 0 ∧
      (turned { entry with accumulator := -95, counted := true } true false).counted = false := by decide

/-- Section 6.9, lines 8 to 12: start, back-out and commit. -/
theorem test_encoder_hold :
    (turned { armedUnit .IN with accumulator := 6 } false true).state = .armed ∧
    (turned { armedUnit .IN with accumulator := 7 } false true).state = .turning ∧
    (turned (turningUnit 1) true false).state = .armed ∧
    (turned { turningUnit 1 with armTimer := none, overdue := true } true false).completion = some .expiry ∧
    (turned (turningUnit 71) false true).state = .locked ∧
    (turned (turningUnit 71) false true).completion = some (.commit ⟨1004000, 90⟩) ∧
    (turned (turningUnit 71) false true).tallies.admits = 1 ∧
    (turned (turningUnit 71) false true).lockIn = false ∧
    (turned { armedUnit .IN with accumulator := 75, counted := true } false true).state = .turning := by decide

/-- R125: FREE clears the overdue mark, here of a LOCKED lane, and so does an arm command at a FREE lane. -/
theorem test_overdue_cleared :
    ({ LaneUnit.reset with state := .locked, overdue := true }.takeFree).overdue = false ∧
      ({ LaneUnit.reset with state := .free, overdue := true }.takeArm .IN).overdue = false := by decide

/-- R125: the arm timer's expiry in ARMED and in TURNING. -/
theorem test_arm_timer_expiry :
    let go (lu : LaneUnit) : LaneUnit :=
      (after (exec (.armTimerExpiry 2) (heldBy (hold2 .IN) 0 { lu with armTimer := some 0 }))).lanes.get 2
    (go (armedUnit .IN)).state = .locked ∧ (go (armedUnit .IN)).completion = some .expiry ∧
      (go (turningUnit 30)).state = .turning ∧ (go (turningUnit 30)).overdue = true ∧
      (go (turningUnit 30)).lockIn = true := by decide

/-- R92 and section 5.11, line 3: an arm command at LOCKED and at FREE. -/
theorem test_arm_command :
    let go (lu : LaneUnit) : LaneUnit := (after (exec .armCommand
      { heldBy (hold2 .IN) 0 lu with commands := [.arm 2 .IN] })).lanes.get 2
    (go { LaneUnit.reset with role := .dual, state := .locked }).state = .armed ∧
      (go { LaneUnit.reset with role := .dual, state := .locked }).armTimer = some 2048 ∧
      (go { LaneUnit.reset with role := .dual, state := .locked }).lockIn = true ∧
      (go { LaneUnit.reset with role := .dual, state := .free }).completion = some .withdrawn ∧
      (go { LaneUnit.reset with role := .dual, state := .free }).hold = some .IN := by decide

/-- Section 7.7, lines 2 and 7: a withdraw command in TURNING and in ARMED. -/
theorem test_withdraw_command :
    let go (lu : LaneUnit) : LaneUnit := (after (exec .withdrawCommand
      { heldBy (hold2 .IN) 0 lu with commands := [.withdraw 2] })).lanes.get 2
    go (turningUnit 30) = turningUnit 30 ∧ (go (armedUnit .IN)).state = .locked ∧
      (go (armedUnit .IN)).completion = some .withdrawn := by decide

/-- R178. -/
theorem test_link_monitor_timeout :
    let t := after (exec .linkMonitorTimeout
      { venue with gc := { venue.gc with monitorCount := 2560, timeoutDue := true } })
    t.gc.link = .offline ∧ t.gc.events = [.linkLost] := by decide

/-- Section 6.8, settings waiting for rest, line 1: the threshold is clamped, the live copy waits. -/
theorem test_set_lane :
    let t := after (exec .setLane (asked armedIn 0x60 [2, 0x06, 0, 12, 95, 0]))
    (t.lanes.get 2).live = ⟨8, 72, false⟩ ∧ (t.lanes.get 2).preload = ⟨12, 90, false⟩ ∧
      lastReply t = some ⟨0x60, .ok, [2, 4, 2, 8, 72, 0, 12, 90, 0]⟩ ∧
      lastReply (after (exec .setLane (asked armedIn 0x60 [2, 0x07, 2, 12, 95, 0])))
        = some ⟨0x60, .holdActive, []⟩ := by decide

/-- R134: READ_TALLIES with and without the clear flag. -/
theorem test_read_tallies :
    let s := { venue with lanes := venue.lanes.set 0 { LaneUnit.reset with tallies := ⟨1, 2, 3, 4, 5, 258⟩ } }
    let t := after (exec .readTallies (asked s 0x61 [1]))
    (lastReply t).map (fun r => (r.payload.take 24, r.payload.length))
      = some ([0, 0, 0, 1, 0, 0, 0, 2, 0, 0, 0, 3, 0, 0, 0, 4, 0, 0, 0, 5, 0, 0, 1, 2], 144) ∧
      (t.lanes.get 0).tallies = .zero ∧
      ((after (exec .readTallies (asked s 0x61 [0]))).lanes.get 0).tallies.free = 3 := by decide +kernel

/-! ### Completions, reports and backfill -/

/-- Section 4.8, service 4: the entry commit. -/
theorem test_commit_entry :
    let t := after (exec .commitCompletion
      (taking (heldBy (hold2 .IN) 0 (completedUnit .IN (.commit ⟨1004002, 7⟩))) (.completion 2)))
    slot0 t = some { recordA .inside 1 with lastPassage := some ⟨⟨1004002, 7⟩, .lane 2⟩ } ∧
      t.zones.get 3 = ⟨5000, 2401, 0⟩ ∧
      t.contexts.get 2 = ⟨none, some ⟨.committed, ticketA⟩, 0⟩ ∧
      t.journal = [⟨0, .admission, .lane 2, ⟨1004002, 7⟩, some ⟨ticketA, 4, 3, .inside, 1⟩⟩] ∧ t.pointer = 2 := by
  decide

/-- Section 5.12, line 4: an exit commit under a revoke mark. -/
theorem test_commit_exit_revoked :
    let t := after (exec .commitCompletion
      (taking (heldBy { hold2 .OUT with revokeMark := true } 1
        (completedUnit .OUT (.commit ⟨1004210, 200⟩))) (.completion 2)))
    slot0 t = some { recordA .revoked 1 with lastPassage := some ⟨⟨1004210, 200⟩, .lane 2⟩ } ∧
      t.zones.get 3 = ⟨5000, 2399, 0⟩ ∧
      t.journal = [⟨0, .exit, .lane 2, ⟨1004210, 200⟩, some ⟨ticketA, 4, 3, .revoked, 1⟩⟩] := by decide

/-- Section 7.7, the end without a REVOKE: an expiry under a remote mark. -/
theorem test_expiry_remote_mark :
    let t := after (exec .expiryCompletion
      (taking (heldBy { hold2 .IN with remoteMark := some ⟨12, ⟨1004501, 0⟩⟩ } 0
        (completedUnit .IN .expiry)) (.completion 2)))
    slot0 t = some { recordA .inside 1 with lastPassage := some ⟨⟨1004501, 0⟩, .gate 12⟩ } ∧
      (t.journal.map (·.kind)) = [.conflict] ∧ (t.contexts.get 2).lastOutcome = some ⟨.expired, ticketA⟩ := by
  decide

/-- Section 7.7, line 8: a withdrawn completion under both marks. -/
theorem test_withdrawn_both_marks :
    let t := after (exec .withdrawnCompletion
      (taking (heldBy { hold2 .IN with remoteMark := some ⟨12, ⟨1004501, 0⟩⟩, revokeMark := true } 0
        (completedUnit .IN .withdrawn)) (.completion 2)))
    slot0 t = some (recordA .revoked 0) ∧ t.zones.get 3 = ⟨5000, 2400, 0⟩ ∧
      t.journal = [⟨0, .conflict, .lane 2, ⟨1004000, 90⟩, some ⟨ticketA, 4, 3, .revoked, 0⟩⟩] := by decide

/-- R62, R71: a forced report served. -/
theorem test_forced_report :
    let t := after (exec .forcedReportService
      (taking { venue with lanes := venue.lanes.set 3 { venue.lanes.get 3 with forcedReports := 1 } }
        (.forcedReport 3)))
    t.journal = [⟨0, .forced, .lane 3, ⟨1004000, 90⟩, none⟩] ∧ (t.lanes.get 3).forcedReports = 0 ∧
      (t.contexts.get 3).forcedSincePoll = 1 := by decide

/-- Section 8.8, line 2: LINK_LOST appended as number 1 raises ATTN at watermark 2. -/
theorem test_gate_event :
    let t := after (exec .gateEventService
      (taking { venue with
        journal := [⟨0, .forced, .lane 3, ⟨7200, 0⟩, none⟩], nextSeq := 1, watermark := 2
        gc := { venue.gc with events := [.linkLost] } } .gateEvent))
    t.journal = [⟨0, .forced, .lane 3, ⟨7200, 0⟩, none⟩, ⟨1, .linkLost, .gate 7, ⟨1004000, 90⟩, none⟩] ∧
      t.nextSeq = 2 ∧ t.attn = true ∧ t.gc.events = [] := by decide

/-- Section 8.7, line 7: the lowest flagged slot is reported. -/
theorem test_backfill :
    let t := after (exec .backfillStep
      (taking { venue with
        table := [(2, { recordA .inside 1 with pendingReport := true }),
          (9, { recordA .outside 1 with ticket := ticketB, pendingReport := true })]
        pendingCount := 2, nextSeq := 41024 } .backfill))
    t.journal = [⟨41024, .snapshot, .gate 7, ⟨1004000, 90⟩, some ⟨ticketA, 4, 3, .inside, 1⟩⟩] ∧
      t.pendingCount = 1 ∧ t.table.get? 2 = some (recordA .inside 1) ∧ t.attn = true := by decide

/-- Section 4.9, lines 1 to 3: the arbiter's choices. -/
theorem test_arbiter :
    let waits (n : Lane) (s : State) : State :=
      { s with ports := s.ports.set n { s.ports.get n with request := .waiting .poll } }
    let s := waits 0 (waits 3 (waits 5
      { venue with pointer := 4, uplink := { venue.uplink with slot := .waiting ⟨0x13, packedA⟩ } }))
    (after (exec .serviceArbiterChoice s)).chosen = some (.laneRequest 5) ∧
    (after (exec .serviceArbiterChoice { s with pointer := 0, turn := .uplink })).chosen = some .uplinkRequest ∧
    (after (exec .serviceArbiterChoice
      { s with lanes := venue.lanes.set 1 (completedUnit .IN .expiry) })).chosen = some (.completion 1) := by
  decide

/-! ### Lane requests -/

/-- The venue with ticket A VALID, as section 4.8 starts. -/
def start48 : State := holding (recordA .valid 0)

/-- Section 4.8, service 1: the grant; R193, R211 and the worked reply of chapter 98: its 39 bytes. -/
theorem test_present_code_grant :
    let t := after (exec .presentCode (laneAsked start48 (.code .IN textA)))
    slot0 t = some (recordA (.held (hold2 .IN)) 0) ∧ t.zones.get 3 = ⟨5000, 2400, 1⟩ ∧
      t.commands = [.arm 2 .IN] ∧ t.pointer = 3 ∧ t.turn = .uplink ∧
      (laneReply t).map LaneReply.frame = some ([0x26, 0x01, 0x0E] ++ packedA ++ [4, 3, 1, 8, 0x01, 0x01]
        ++ packedA ++ [0, 0, 0, 0, 0, 0, 0, 0, 0, 0, 0x01, 0x01, 0x00, 0x3F]) := by decide

/-- Section 4.8, service 2: HELD_ELSEWHERE, and REFUSALS rises. -/
theorem test_present_code_refused :
    let s := { armedIn with
      ports := armedIn.ports.set 4 { Port.reset with request := .inService (.code .IN textA) }
      chosen := some (.laneRequest 4) }
    let t := after (exec .presentCode s)
    t.table = s.table ∧ (t.lanes.get 4).tallies.refusals = 1 ∧ t.pointer = 5 ∧
      ((t.ports.get 4).reply.map fun r => r.frame.take 3) = some [0x26, 0x0C, 0x06] := by decide

/-- Section 4.10, line 1: a card granted keeps its UID in the hold. -/
theorem test_present_card :
    let t := after (exec .presentCard (laneAsked start48 (.card .IN [1, 2, 3, 4, 5, 6, 7] payloadA)))
    slot0 t = some (recordA (.held { hold2 .IN with uid := some [1, 2, 3, 4, 5, 6, 7] }) 0) ∧
      (laneReply t).map (fun r => r.frame.getD 1 0) = some 0x01 := by decide

/-- Section 4.10, lines 2 and 3: a repeat, and the same ticket from the other side. -/
theorem test_present_repeat :
    let t := after (exec .presentCard (laneAsked armedIn (.card .IN [1, 2, 3, 4] payloadA)))
    let u := after (exec .presentCode (laneAsked armedIn (.code .OUT textA)))
    t.table = armedIn.table ∧ ((laneReply t).map fun r => r.frame.take 3) = some [0x26, 0x01, 0x0F] ∧
      ((laneReply u).map fun r => r.frame.getD 1 0) = some 0x09 ∧ (u.lanes.get 2).tallies.refusals = 1 := by
  decide

/-- Section 4.10, lines 4 and 5: CANCEL answered DONE, then NO_EFFECT. -/
theorem test_cancel :
    let t := after (exec .cancel (laneAsked armedIn .cancel))
    slot0 t = some (recordA .valid 0) ∧ (t.lanes.get 2).state = .locked ∧ t.zones.get 3 = ⟨5000, 2400, 0⟩ ∧
      (t.contexts.get 2).lastOutcome = some ⟨.cancelled, ticketA⟩ ∧
      ((laneReply t).map fun r => r.frame.getD 1 0) = some 0x20 ∧
      ((laneReply (after (exec .cancel (laneAsked venue .cancel)))).map fun r => r.frame.getD 1 0)
        = some 0x21 := by decide

/-- Section 4.10, line 6: POLL shows the outcome and clears it. -/
theorem test_poll :
    let s := { venue with contexts := venue.contexts.set 2 ⟨none, some ⟨.cancelled, ticketA⟩, 9⟩ }
    let t := after (exec .poll (laneAsked s .poll))
    t.contexts.get 2 = ⟨none, none, 0⟩ ∧
      (laneReply t).map LaneReply.content = some ([0x22, 0x01, 0x00, 0, 0, 0, 0, 0, 0, 0, 0, 0x03] ++ packedA
        ++ [9, 0x01, 0x01, 0x00]) := by decide

/-- Section 10.7, lines 3 and 5: an overrun; and a reply read in part stays. -/
theorem test_transfer :
    let active (p : Port) : State := { venue with ports := venue.ports.set 3 p }
    let busy : Port := { Port.reset with request := .inService .cancel, transfer := .active none false }
    let full : Port :=
      { Port.reset with reply := some (.badFrame true), ready := true, transfer := .none }
    let t := after (exec (.transferEnd 3 (bitsOfBytes [0x02, 0x44, 0xBA])) (active busy))
    (t.ports.get 3).overrun = true ∧ (t.ports.get 3).request = .inService .cancel ∧
      ((after (exec (.transferBegin 3) (active full))).ports.get 3).transfer
        = .active (some (.badFrame true)) false ∧
      ((after (exec (.transferEnd 3 (bitsOfBytes [0, 0, 0]))
        (active { full with transfer := .active full.reply false }))).ports.get 3).reply = full.reply ∧
      ((after (exec (.transferEnd 3 (bitsOfBytes [0, 0, 0, 0]))
        (active { full with transfer := .active full.reply false }))).ports.get 3).reply = none := by decide

/-- R86, R191, R192: a reply placed while a transfer is in progress carries the overrun marker, clears it, and stands
unread when that transfer ends, however many bytes were clocked. -/
theorem test_reply_placed_in_transfer :
    let port (s : State) : State := { s with
      ports := s.ports.set 2
        { s.ports.get 2 with overrun := true, transfer := .active (some (.badFrame false)) false } }
    let go (c : Instr) (q : LaneRequest) : Port := (after (exec c (port (laneAsked start48 q)))).ports.get 2
    let marker (r : Option LaneReply) : Option Bool := r.map fun
      | .verdict v => v.block.overrun
      | .cancel _ b => b.overrun
      | .poll b => b.overrun
      | .badFrame o => o
    ([go .poll .poll, go .cancel .cancel, go .presentCode (.code .IN textA)].map fun p =>
      (marker p.reply, p.overrun, p.ready, p.transfer))
      = .replicate 3 (some true, false, true, .active (some (.badFrame false)) true) ∧
    ((after (exec (.transferEnd 2 (bitsOfBytes (.replicate 30 0)))
      (after (exec .poll (port (laneAsked start48 .poll)))))).ports.get 2).reply ≠ none := by decide +kernel

/-- R183, R192: LSOn sends 0x03 of a BAD_FRAME reply, most significant bit first, and filler after its four bytes;
outside a transfer it is not driven. -/
theorem test_lane_out_bits :
    let s : State := { venue with
      ports := venue.ports.set 3 { Port.reset with transfer := .active (some (.badFrame true)) false } }
    ([0, 1, 2, 3, 4, 5, 6, 7].map (s.laneOutBit 3))
      = [some false, some false, some false, some false, some false, some false, some true, some true] ∧
    s.laneOutByte 3 1 = some 0x2F ∧ s.laneOutByte 3 4 = some 0x00 ∧ s.laneOutBit 2 0 = none := by decide

/-! ### Uplink -/

/-- R196, R201, R206: UTXD idles high, and sends the start byte 0xA5 of a reply as start bit, 1, 0, 1, 0, 0, 1, 0, 1,
the parity bit 0 and the stop bit; the assertion of RST takes it back to idle. -/
theorem test_utxd :
    let s : State := { venue with uplink := { venue.uplink with replies := [⟨0x70, .busy, []⟩] } }
    venue.utxd 0 = true ∧
      ([0, 1, 2, 3, 4, 5, 6, 7, 8, 9, 10].map s.utxd)
        = [false, true, false, true, false, false, true, false, true, false, true] ∧
      s.utxd 66 = true ∧ { s with rstAsserted := true }.utxd 0 = true := by decide

/-- R2: the bit rates of the strap pairs (BRS1, BRS0). -/
theorem test_bit_rates :
    [(false, false), (false, true), (true, false), (true, true)].map (fun b : Bool × Bool =>
      { UplinkPort.reset with straps := { brs1 := b.1, brs0 := b.2 } }.bitRate)
      = [115200, 230400, 460800, 921600] := by decide

/-- R197, R198: the start byte, a length of 1,025, a parity error in BODY, and the gap. -/
theorem test_characters :
    let rx (r : Receiver) : State := { venue with uplink := { venue.uplink with receiver := r } }
    (after (exec (.characterReceived ⟨0xA5, false, true⟩) venue)).uplink.receiver = .header [0xA5] ∧
      (after (exec (.characterReceived ⟨0x01, true, true⟩) (rx (.header [0xA5, 0x04])))).uplink.receiver
        = .hunt ∧
      (after (exec (.characterReceived ⟨0x00, false, true⟩) (rx (.header [0xA5, 0x04])))).uplink.receiver
        = .body 1024 [0xA5, 0x04, 0x00] ∧
      (after (exec (.characterReceived ⟨0x70, false, true⟩) (rx (.body 0 [0xA5, 0, 0])))).uplink.receiver
        = .hunt ∧
      (after (exec .interByteGap (rx (.body 0 [0xA5, 0, 0])))).uplink.receiver = .hunt := by decide

/-- Section 9.8, line 7: a well-formed STATUS frame while OFFLINE; R199: BUSY while the slot is taken. -/
theorem test_frame_arrival :
    let s := { venue with uplink := { venue.uplink with receiver := .body 0 [0xA5, 0, 0, 0x70, 0xEB] } }
    let t := after (exec .uplinkFrameArrival { s with gc := { s.gc with link := .offline, monitorCount := 9 } })
    let u := after (exec .uplinkFrameArrival
      { s with uplink := { s.uplink with slot := .replying ⟨0x71, []⟩ } })
    t.gc.link = .online ∧ t.gc.monitorCount = 0 ∧ t.gc.events = [.linkBack] ∧
      t.uplink.slot = .waiting ⟨0x70, []⟩ ∧ u.uplink.replies = [⟨0x70, .busy, []⟩] := by decide

/-- R200, R201, R205: the RESTART reply's frame, and the warm reset that its sending makes due. -/
theorem test_restart_and_reply_sent :
    let t := after (exec .restart (asked venue 0x71 []))
    let u := after (exec .replySent t)
    t.restarting = true ∧ (lastReply t).map UplinkReply.frame = some [0xA5, 0x00, 0x01, 0x71, 0x00, 0xE9] ∧
      u.uplink.slot = .empty ∧ u.warmResetDue = true := by decide

/-- R204: STATUS; R200: an unknown type. -/
theorem test_status_and_unknown :
    lastReply (after (exec .status (asked start48 0x70 [])))
      = some ⟨0x70, .ok, [0x01, 0x01, 0x01, 0, 1, 7, 0x37, 0, 1, 0, 0, 0, 0, 0, 0]⟩ ∧
    lastReply (after (exec .unknownRequest (asked start48 0x72 []))) = some ⟨0x72, .badArg, []⟩ ∧
    lastReply (after (exec .unknownRequest (asked start48 0x70 [0]))) = some ⟨0x70, .badArg, []⟩ := by decide

/-- The LOAD_TICKET block of ticket A in a class, a state and with entries used, without optional fields. -/
def blockA (cls state entries : Byte) : List Byte := packedA ++ [cls, state, entries] ++ List.replicate 19 0

/-- R208: bytes 8 to 11 of the block of a HELD record that owes a report. -/
theorem test_held_block :
    ({ recordA (.held (hold2 .IN)) 0 with pendingReport := true }.block.drop 8).take 4
      = [0x04, 0x02, 0x00, 0x0C] := by decide

/-- Section 2.7, requests 1, 7, 8, 9 and 11. -/
theorem test_load_ticket :
    let status (s : State) (p : List Byte) := (lastReply (after (exec .loadTicket (asked s 0x10 p)))).map (·.status)
    slot0 (after (exec .loadTicket (asked venue 0x10 (blockA 4 1 0)))) = some (recordA .valid 0) ∧
      status venue (blockA 40 1 0) = some .badRecord ∧ status venue ((blockA 4 1 0).set 7 0x44) = some .badCheck ∧
      status start48 (blockA 4 1 2) = some .badRecord ∧ status armedIn (blockA 4 1 0) = some .held := by decide

/-- Section 2.7, requests 4, 12 and 14. -/
theorem test_drop_and_query :
    (after (exec .dropTicket (asked start48 0x11 packedA))).table = [] ∧
    lastReply (after (exec .dropTicket
      (asked (holding { recordA .outside 1 with pendingReport := true }) 0x11 packedA)))
      = some ⟨0x11, .pendingReport, []⟩ ∧
    lastReply (after (exec .queryTicket (asked armedIn 0x13 packedA)))
      = some ⟨0x13, .ok, [0, 0] ++ packedA ++ [4, 2, 0, 8] ++ List.replicate 18 0
        ++ [2, 1, 0x00, 0x0F, 0x51, 0xE0, 90]⟩ := by decide

/-- R36: CLEAR_TABLE with the gate closed and open. -/
theorem test_clear_table :
    (after (exec .clearTable
      (asked { start48 with gc := { start48.gc with gate := .closed } } 0x12 []))).table = [] ∧
    lastReply (after (exec .clearTable (asked start48 0x12 []))) = some ⟨0x12, .gateOpen, []⟩ := by decide

/-- R43: a cooldown of 3,601 is clamped, a lane mask of 64 refused. -/
theorem test_set_class :
    let p : List Byte := [4, 0, 0x0F, 0x42, 0x40, 0, 0x0F, 0x6C, 0x70, 2, 0x0E, 0x11, 3, 63, 0]
    (after (exec .setClass (asked State.reset 0x20 p))).classes.get 4 = { class4 with cooldown := 3600 } ∧
      lastReply (after (exec .setClass (asked State.reset 0x20 (p.set 13 64)))) = some ⟨0x20, .badArg, []⟩ := by
  decide

/-- Section 3.9, line 9: SET_ZONE zone 3, capacity 4,000. -/
theorem test_set_zone :
    let s := { venue with zones := venue.zones.set 3 ⟨5000, 5001, 0⟩ }
    let t := after (exec .setZone (asked s 0x21 [3, 1, 0x0F, 0xA0, 0, 0]))
    t.zones.get 3 = ⟨4000, 5001, 0⟩ ∧ lastReply t = some ⟨0x21, .ok, [3, 0x0F, 0xA0, 0x13, 0x89, 0]⟩ := by decide

/-- R52, R53. -/
theorem test_clock :
    (after (exec .setClock (asked State.reset 0x22 [0, 0x0F, 0x51, 0xE0]))).clock = ⟨⟨1004000, 0⟩, true⟩ ∧
    lastReply (after (exec .readClock (asked venue 0x23 [])))
      = some ⟨0x23, .ok, [0, 0x0F, 0x51, 0xE0, 90, 1]⟩ := by decide

/-- A notice's payload for ticket A: gate and time 1,004,250.000. -/
def noticeA (g : Byte) : List Byte := packedA ++ [g, 0x00, 0x0F, 0x52, 0xDA, 0]

/-- Section 7.6, lines 1, 3 and 6. -/
theorem test_note_admit :
    let t := after (exec .noteAdmit (asked start48 0x30 (noticeA 12)))
    slot0 t = some { recordA .inside 1 with lastPassage := some ⟨⟨1004250, 0⟩, .gate 12⟩ } ∧
      t.zones.get 3 = ⟨5000, 2401, 0⟩ ∧ t.journal = [] ∧
      ((after (exec .noteAdmit (asked (holding (recordA .inside 1)) 0x30 (noticeA 15)))).journal
        = [⟨0, .double, .gate 15, ⟨1004250, 0⟩, some ⟨ticketA, 4, 3, .inside, 1⟩⟩]) ∧
      lastReply (after (exec .noteAdmit (asked start48 0x30 (noticeA 7)))) = some ⟨0x30, .echo, []⟩ := by decide

/-- Section 7.7, lines 1 and 3: a notice against an entry hold, and a second one. -/
theorem test_note_admit_held :
    let t := after (exec .noteAdmit (asked armedIn 0x30 (noticeA 12)))
    let u := after (exec .noteAdmit
      (asked (heldBy { hold2 .IN with remoteMark := some ⟨12, ⟨1004250, 0⟩⟩ } 0 (turningUnit 30)) 0x30 (noticeA 15)))
    slot0 t = some (recordA (.held { hold2 .IN with remoteMark := some ⟨12, ⟨1004250, 0⟩⟩ }) 0) ∧
      t.commands = [.withdraw 2] ∧ t.zones.get 3 = ⟨5000, 2401, 1⟩ ∧ t.journal = [] ∧
      u.journal = [⟨0, .double, .gate 15, ⟨1004250, 0⟩, some ⟨ticketA, 4, 3, .valid, 0⟩⟩] ∧
      slot0 u = slot0 t := by decide

/-- Section 7.6, lines 4 and 7: NOTE_EXIT of an INSIDE and of an OUTSIDE record. -/
theorem test_note_exit :
    let t := after (exec .noteExit (asked (holding (recordA .inside 1)) 0x31 (noticeA 12)))
    slot0 t = some { recordA .outside 1 with lastPassage := some ⟨⟨1004250, 0⟩, .gate 12⟩ } ∧
      t.zones.get 3 = ⟨5000, 2399, 0⟩ ∧
      lastReply (after (exec .noteExit (asked (holding (recordA .outside 1)) 0x31 (noticeA 12))))
        = some ⟨0x31, .notInside, [0, 0, 4, 1, 0, 0, 0]⟩ := by decide

/-- Section 7.7, line 6, and R149: REVOKE of a held and of a VALID record. -/
theorem test_revoke :
    let t := after (exec .revoke (asked armedIn 0x32 packedA))
    slot0 t = some (recordA (.held { hold2 .IN with revokeMark := true }) 0) ∧ t.commands = [.withdraw 2] ∧
      slot0 (after (exec .revoke (asked start48 0x32 packedA))) = some (recordA .revoked 0) := by decide

/-- Section 8.8, line 1: TAKE_JOURNAL 2 over the wrap. -/
theorem test_take_journal :
    let t := after (exec .takeJournal (asked { venue with
      journal := [forcedEntry 65534, forcedEntry 65535, forcedEntry 0], nextSeq := 1, watermark := 2
      attn := true } 0x40 [2]))
    t.journal = [forcedEntry 0] ∧ t.attn = false ∧ t.nextSeq = 1 ∧
      (lastReply t).map (fun r => (r.payload.take 13, r.payload.length))
        = some ([2, 0, 1, 0xFF, 0xFE, 6, 0, 3, 0, 0, 0x1C, 0x20, 0], 47) := by decide

/-- R165, R166: a watermark of 0 becomes 1, and ATTN follows. -/
theorem test_set_watermark :
    let t := after (exec .setWatermark (asked { venue with journal := [forcedEntry 0], nextSeq := 1 } 0x41 [0, 0]))
    t.watermark = 1 ∧ t.attn = true ∧ lastReply t = some ⟨0x41, .ok, [0, 1]⟩ := by decide

/-- R170, R171 and section 9.7, line 8. -/
theorem test_gate_requests :
    (after (exec .openGate (asked State.reset 0x50 []))).gc.gate = .opened ∧
    (after (exec .closeGate (asked venue 0x51 []))).gc.gate = .closed ∧
    lastReply (after (exec .openGate (asked { venue with gc := { venue.gc with gate := .evac } } 0x50 [])))
      = some ⟨0x50, .evacActive, []⟩ := by decide

/-- R176, R179. -/
theorem test_identity_and_timeout :
    (after (exec .setIdentity (asked State.reset 0x52 [63, 0x37]))).gc.eventCode = ⟨3, 7⟩ ∧
    lastReply (after (exec .setIdentity (asked State.reset 0x52 [64, 0x37]))) = some ⟨0x52, .badArg, []⟩ ∧
    (after (exec .setLinkTimeout (asked venue 0x53 [1]))).gc.linkTimeout = 2 := by decide

/-- One step takes the front command and leaves the rest of the queue. -/
theorem test_step :
    after (step { venue with pending := [.evacPinChange true, .status] })
      = { venue with evacPin := true, pending := [.status] } := by decide

/-! ### Witnesses: for each statement with hypotheses, a state and operands that meet them -/

/-- For StepTakesTheFrontCommand: an empty queue. -/
theorem test_witness_StepTakesTheFrontCommand : venue.pending = [] := by decide

/-- The held part: ticket A's hold is ARMED and RST is asserted. -/
def resetting : State := { armedIn with rstAsserted := true }

/-- A part that owes the warm reset of a RESTART. -/
def restarted : State := { armedIn with restarting := true, warmResetDue := true }

/-- For WarmResetKeepsAndClears: RST asserted, a RESTART reply sent, and a marked hold with room for its entry. -/
theorem test_witness_WarmResetKeepsAndClears :
    (resetting.table.wf = true ∧ resetting.rstAsserted = true) ∧
    (restarted.table.wf = true ∧ restarted.warmResetDue = true ∧ restarted.NothingDue) ∧
    (markedIn.table.wf = true ∧ markedIn.rstAsserted = true ∧
      markedIn.markedHolds.take (1024 - markedIn.journal.length) = [(0, recordA (.held marked) 1, marked)]) := by decide

/-- For WarmResetKeepsAndClears: a marked hold that finds the journal full. -/
theorem test_witness_WarmResetKeepsAndClears_full :
    ∃ s : State, s.table.wf = true ∧ s.rstAsserted = true ∧
      s.markedHolds.drop (1024 - s.journal.length) = [(0, recordA (.held marked) 1, marked)] :=
  ⟨{ markedIn with journal := .replicate 1024 (forcedEntry 0) }, by decide +kernel⟩

/-- For ResetAndEvacPinsDriveTheLocks. -/
theorem test_witness_ResetAndEvacPinsDriveTheLocks :
    (armedIn.rstAsserted = false ∧ armedIn.NothingDue) ∧ resetting.rstAsserted = true := by decide

/-- A part after a RESTART reply where a complete frame waits, an arm timer has run out, and the link timeout and a
change of EVAC are due. -/
def dueAtReset : State :=
  { heldBy (hold2 .IN) 0 { armedUnit .IN with armTimer := some 0 } with
    gc := { venue.gc with monitorCount := 2560, timeoutDue := true, evacDue := true }
    uplink := { venue.uplink with receiver := .body 0 [0xA5, 0, 0, 0x70, 0xEB] }
    restarting := true, warmResetDue := true }

/-- For ResetAndEvacPinsDriveTheLocks, WarmResetKeepsAndClears and ReceiverFollowsTheFrame: something is due, and its
own commands run to a next state, in which the lane is FREE with its expiry raised. -/
theorem test_witness_something_due :
    dueAtReset.rstAsserted = false ∧ dueAtReset.warmResetDue = true ∧
      dueAtReset.uplink.receiver.complete? ≠ none ∧ (∃ t, exec .uplinkFrameArrival dueAtReset = .next t) ∧
      ∃ t, runCommands (.uplinkFrameArrival :: dueCommands) dueAtReset = .next t ∧
        (t.lanes.get 2).completion = some .expiry ∧ t.gc.gate = .evac :=
  ⟨rfl, rfl, by decide, ⟨_, rfl⟩, _, rfl, by decide +kernel, by decide +kernel⟩

/-- For HeldPartTakesNoStep. -/
theorem test_witness_HeldPartTakesNoStep :
    restarted.restarting = true ∧ resetting.rstAsserted = true := by decide

/-- A part where an arm timer has run out and the link timeout is due. -/
def overrun : State :=
  { heldBy (hold2 .IN) 0 { armedUnit .IN with armTimer := some 0 } with
    gc := { venue.gc with monitorCount := 2560, timeoutDue := true } }

/-- For TickTakesWhatIsDueFirst: the due commands run to a next state, in which the lane has relocked. -/
theorem test_witness_TickTakesWhatIsDueFirst :
    overrun.rstAsserted = false ∧
      ∃ t, runCommands dueCommands overrun = .next t ∧ (t.lanes.get 2).state = .locked :=
  ⟨rfl, _, rfl, rfl⟩

/-- The armed lane with an encoder step next in the queue. -/
def stepping : State := { armedIn with pending := [.encoderEvent 2 ⟨false, true⟩] }

/-- For StepKeepsTheInvariant and the statements of its parts: a state with a hold meets the whole invariant, and
its step answers a next state. -/
theorem test_witness_StepKeepsTheInvariant : stepping.Inv ∧ ∃ t, step stepping = .next t := by
  refine ⟨⟨by decide, ?_, by decide, by decide, ⟨?_, ?_⟩, ?_, ?_, by decide, by decide, by decide, by decide,
    by decide, by decide, ⟨trivial, by decide, by decide⟩, by decide⟩, _, rfl⟩
  · intro e he
    obtain rfl : e = (0, recordA (.held (hold2 .IN)) 0) := by simpa [stepping, armedIn, heldBy, holding] using he
    refine ⟨⟨rfl, rfl⟩, ?_, (by intro u hu; cases hu), (by intro lp hl; cases hl)⟩
    intro h hh
    obtain rfl : hold2 .IN = h := by simpa [Record.hold?, recordA] using hh
    exact ⟨(by intro u hu; cases hu), (by decide : PriorState.valid ≠ .inside),
      (by decide : (some 3 : Option ZoneNo) ≠ none), (by intro m hm; cases hm)⟩
  · intro n ref h
    match n, h with
    | 2, h => obtain rfl : (⟨ticketA, 0⟩ : HoldRef) = ref := Option.some.inj h
              exact ⟨_, rfl, rfl, rfl, rfl⟩
    | 0, h => cases h
    | 1, h => cases h
    | 3, h => cases h
    | 4, h => cases h
    | 5, h => cases h
  · intro e he
    obtain rfl : e = (0, recordA (.held (hold2 .IN)) 0) := by simpa [stepping, armedIn, heldBy, holding] using he
    intro h hh
    obtain rfl : hold2 .IN = h := by simpa [Record.hold?, recordA] using hh
    rfl
  · intro n
    match n with
    | 2 => exact ⟨⟨by decide, by decide, by decide, 2048, rfl, by decide⟩, by decide⟩
    | 0 => exact ⟨⟨by decide, rfl⟩, by decide⟩
    | 1 => exact ⟨⟨by decide, rfl⟩, by decide⟩
    | 3 => exact ⟨⟨by decide, rfl⟩, by decide⟩
    | 4 => exact ⟨⟨by decide, rfl⟩, by decide⟩
    | 5 => exact ⟨⟨by decide, rfl⟩, by decide⟩
  · exact ⟨by decide, by decide, by intro c hc; cases hc⟩

/-- For StepKeepsTheTable, StepKeepsReservedCounts, StepKeepsTheJournal, StepKeepsServiceAndSlot and
StepKeepsLinesAndCounts: a command at the front of the queue, and the parts of the invariant alone. -/
theorem test_witness_StepKeepsParts :
    stepping.TableOk ∧ stepping.PendingOk ∧ stepping.ReservedOk ∧ stepping.JournalOk ∧ stepping.ServiceOk ∧
      stepping.UplinkOk ∧ stepping.LinesOk ∧ stepping.CountsOk ∧
      stepping.pending = .encoderEvent 2 ⟨false, true⟩ :: [] :=
  ⟨by decide, by decide, by decide, by decide, ⟨trivial, by decide, by decide⟩, by decide, by decide, by decide,
    rfl⟩

/-- For ResetCauseRecordsTheLastReset. -/
theorem test_witness_ResetCauseRecordsTheLastReset :
    (resetting.rstAsserted = true ∨ resetting.warmResetDue = true) ∧
      (asked venue 0x70 []).TakesUplink 0x70 [] := by decide

/-- For PowerOnMeetsTheInvariant and SettingsHaveOneWriter: a power-on, and a request other than the settings'. -/
theorem test_witness_settings_and_power_on :
    (∃ t, exec (.powerOnReset ⟨true, ⟨false, true⟩, .replicate 6 ⟨true, false⟩, .replicate 6 true⟩) armedIn
      = .next t) ∧
    venue.clock.valid = true ∧ ∃ t, exec .status (asked venue 0x70 []) = .next t :=
  ⟨⟨_, rfl⟩, rfl, _, rfl⟩

/-- For RecordsStayInTheirSlots: NOTE_ADMIT of the record in slot 0. -/
theorem test_witness_RecordsStayInTheirSlots :
    (asked start48 0x30 (noticeA 12)).TableOk ∧
      (asked start48 0x30 (noticeA 12)).table.get? 0 = some (recordA .valid 0) ∧
      ∃ t, exec .noteAdmit (asked start48 0x30 (noticeA 12)) = .next t :=
  ⟨by decide, by decide, _, rfl⟩

/-- A lane unit with settings in range that a pair turns in direction `e`, its count before the step as given. -/
abbrev meets (lu : LaneUnit) (pair : EncoderPair) (e : Side) : Prop := lu.live.Ok ∧ lu.direction? pair = some e

/-- For EncoderPairsDecode and StepMovesTheRotor: a change of both inputs, and a step at A = 0 and at +95. -/
theorem test_witness_Encoder :
    ((⟨true, true⟩ : EncoderPair).a ≠ (venue.lanes.get 2).reference.a ∧
      (⟨true, true⟩ : EncoderPair).b ≠ (venue.lanes.get 2).reference.b) ∧
    meets (venue.lanes.get 2) ⟨false, true⟩ .IN ∧
    meets { LaneUnit.reset with accumulator := 95 } ⟨false, true⟩ .IN ∧
    meets { LaneUnit.reset with live := ⟨60, 90, true⟩ } ⟨false, true⟩ .OUT := by decide

/-- For StepMovesTheRotor: quiet steps in CLOSED, LOCKED and FREE, in ARMED forward to 7 and to the re-zero, and in
ARMED back with the counted flag set. -/
theorem test_witness_StepMovesTheRotor :
    (∀ st ∈ [LaneState.closed, .locked, .free], ∃ lu : LaneUnit, meets lu ⟨false, true⟩ .IN ∧ lu.state = st ∧
      ¬(lu.counted = false ∧ Side.IN.sign * (lu.accumulator + Side.IN.sign) = lu.live.threshold)) ∧
    (∀ a ∈ [(6 : Int), 95], meets { armedUnit .IN with accumulator := a } ⟨false, true⟩ .IN ∧
      Side.IN.sign * ((turned { armedUnit .IN with accumulator := a } false true).accumulator) < 8) ∧
    (meets { armedUnit .IN with accumulator := -71, counted := true } ⟨true, false⟩ .OUT ∧
      (armedUnit .IN).hold = some Side.OUT.opposite) :=
  ⟨fun st _ => ⟨{ LaneUnit.reset with state := st }, (by decide : meets LaneUnit.reset ⟨false, true⟩ .IN), rfl,
      (by decide : ¬(LaneUnit.reset.counted = false ∧
        Side.IN.sign * (LaneUnit.reset.accumulator + Side.IN.sign) = LaneUnit.reset.live.threshold))⟩,
    by decide, by decide⟩

/-- For FreePassageCountsAlone: a FREE lane, a FREE_EXIT lane, and a step that raises FREE. -/
theorem test_witness_FreePassageCountsAlone :
    (∃ lu : LaneUnit, meets lu ⟨false, true⟩ .IN ∧ lu.state = .free ∧ lu.counted = false ∧
      Side.IN.sign * (lu.accumulator + Side.IN.sign) = lu.live.threshold) ∧
    (∃ lu : LaneUnit, meets lu ⟨true, false⟩ .OUT ∧ lu.state = .locked ∧ lu.role = .freeExit ∧
      lu.counted = false ∧ Side.OUT.sign * (lu.accumulator + Side.OUT.sign) = lu.live.threshold) ∧
    (turned { LaneUnit.reset with state := .free, accumulator := 71 } false true).tallies.free ≠ 0 :=
  ⟨⟨{ LaneUnit.reset with state := .free, accumulator := 71 }, by decide⟩,
    ⟨{ LaneUnit.reset with state := .locked, role := .freeExit, accumulator := -71 }, by decide⟩, by decide⟩

/-- For ForcedPassageRaisesAReport: CLOSED, LOCKED, and ARMED against the hold's direction. -/
theorem test_witness_ForcedPassageRaisesAReport :
    (∃ lu : LaneUnit, meets lu ⟨false, true⟩ .IN ∧ lu.state = .closed ∧ lu.counted = false ∧
      Side.IN.sign * (lu.accumulator + Side.IN.sign) = lu.live.threshold) ∧
    (∃ lu : LaneUnit, meets lu ⟨false, true⟩ .IN ∧ lu.state = .locked ∧
      ¬(lu.role = .freeExit ∧ Side.IN = .OUT) ∧ lu.counted = false ∧
      Side.IN.sign * (lu.accumulator + Side.IN.sign) = lu.live.threshold) ∧
    (∃ lu : LaneUnit, meets lu ⟨true, false⟩ .OUT ∧ lu.state = .armed ∧ lu.hold = some Side.OUT.opposite ∧
      lu.counted = false ∧ Side.OUT.sign * (lu.accumulator + Side.OUT.sign) = lu.live.threshold) :=
  ⟨⟨{ LaneUnit.reset with accumulator := 71 }, by decide⟩,
    ⟨{ LaneUnit.reset with state := .locked, role := .freeExit, accumulator := 71 }, by decide⟩,
    ⟨{ armedUnit .IN with accumulator := -71 }, by decide⟩⟩

/-- For CommitAtTheThreshold: TURNING in each direction, and ARMED one count short. -/
theorem test_witness_CommitAtTheThreshold :
    (meets (turningUnit 71) ⟨false, true⟩ .IN ∧ (turningUnit 71).hold = some .IN ∧
      (turningUnit 71).completion = none ∧ (turningUnit 71).counted = false ∧
      Side.IN.sign * ((turningUnit 71).accumulator + Side.IN.sign) = (turningUnit 71).live.threshold) ∧
    ∃ lu : LaneUnit, meets lu ⟨true, false⟩ .OUT ∧ lu.state = .armed ∧ lu.hold = some .OUT ∧
      lu.completion = none ∧ lu.counted = false ∧
      Side.OUT.sign * (lu.accumulator + Side.OUT.sign) = lu.live.threshold :=
  ⟨by decide, { armedUnit .OUT with accumulator := -71 }, by decide⟩

/-- For TurnStartsAndBacksOut: each clause at the ends of its range. -/
theorem test_witness_TurnStartsAndBacksOut :
    let before (a : Int) (c : Bool) : LaneUnit := { armedUnit .IN with accumulator := a, counted := c }
    let turning (a : Int) (c : Bool) : LaneUnit := { before a c with state := .turning }
    meets (before 7 false) ⟨false, true⟩ .IN ∧ meets (turning 1 false) ⟨true, false⟩ .OUT ∧
    (∀ a ∈ [(7, false), (94, true)], 8 ≤ Side.IN.sign * ((before a.1 a.2).accumulator + Side.IN.sign) ∧
      Side.IN.sign * ((before a.1 a.2).accumulator + Side.IN.sign) ≤ 95 ∧
      ¬((before a.1 a.2).counted = false ∧
        Side.IN.sign * ((before a.1 a.2).accumulator + Side.IN.sign) = (before a.1 a.2).live.threshold)) ∧
    (∀ a ∈ [(0 : Int), 6], 1 ≤ Side.IN.sign * ((before a false).accumulator + Side.IN.sign) ∧
      Side.IN.sign * ((before a false).accumulator + Side.IN.sign) ≤ 7) ∧
    (Side.OUT ≠ Side.IN ∧ (turning 1 false).accumulator = Side.IN.sign) ∧
    (turning 95 true).accumulator = 95 * Side.IN.sign ∧
    (∀ a ∈ [((2 : Int), Side.OUT), (94, .IN)],
      1 ≤ Side.IN.sign * ((turning a.1 true).accumulator + a.2.sign) ∧
      Side.IN.sign * ((turning a.1 true).accumulator + a.2.sign) ≤ 95 ∧
      ¬(a.2 = .IN ∧ (turning a.1 true).counted = false ∧
        Side.IN.sign * ((turning a.1 true).accumulator + a.2.sign) = (turning a.1 true).live.threshold)) := by
  decide

/-- For TimersRunOut: an expiry due in ARMED and in TURNING, and a link timeout due. -/
theorem test_witness_TimersRunOut :
    ((overrun.lanes.get 2).armTimer = some 0 ∧ (overrun.lanes.get 2).state = .armed ∧
      (overrun.lanes.get 2).completion = none ∧ overrun.gc.timeoutDue = true ∧ overrun.rstAsserted = false) ∧
    ∃ lu : LaneUnit, lu.armTimer = some 0 ∧ lu.state = .turning :=
  ⟨by decide, { turningUnit 30 with armTimer := some 0 }, rfl, rfl⟩

/-- For LaneCommandsActByLaneState: an arm command for a LOCKED and for a FREE lane, a withdraw command for an
ARMED and for a TURNING lane. -/
theorem test_witness_LaneCommandsActByLaneState :
    (∃ s : State, s.rstAsserted = false ∧ s.commands = .arm 2 .IN :: [] ∧ (s.lanes.get 2).state = .locked) ∧
    (∃ s : State, s.rstAsserted = false ∧ s.commands = .arm 2 .OUT :: [] ∧ (s.lanes.get 2).state = .free ∧
      (s.lanes.get 2).completion = none) ∧
    (∃ s : State, s.rstAsserted = false ∧ s.commands = .withdraw 2 :: [] ∧ (s.lanes.get 2).state = .armed ∧
      (s.lanes.get 2).completion = none) ∧
    ∃ s : State, s.rstAsserted = false ∧ s.commands = .withdraw 2 :: [] ∧ (s.lanes.get 2).state ≠ .armed :=
  ⟨⟨{ venue with commands := [.arm 2 .IN] }, by decide⟩,
    ⟨{ heldBy (hold2 .OUT) 1 { LaneUnit.reset with state := .free } with commands := [.arm 2 .OUT] }, by decide⟩,
    ⟨{ armedIn with commands := [.withdraw 2] }, by decide⟩,
    ⟨{ heldBy (hold2 .IN) 0 (turningUnit 30) with commands := [.withdraw 2] }, by decide⟩⟩

/-- For EvacFreesAndReleasesTheLanes. -/
theorem test_witness_EvacFreesAndReleasesTheLanes :
    (∃ s : State, s.rstAsserted = false ∧ s.gc.evacDue = true ∧ s.gc.accepted = false) ∧
    ∃ s : State, s.rstAsserted = false ∧ s.gc.evacDue = true ∧ s.gc.accepted = true :=
  ⟨⟨{ armedIn with gc := { venue.gc with evacDue := true } }, by decide⟩,
    ⟨{ venue with gc := { venue.gc with gate := .evac, accepted := true, evacDue := true } }, by decide⟩⟩

/-- For TickCountsEverything. -/
theorem test_witness_TickCountsEverything :
    resetting.rstAsserted = true ∧ armedIn.rstAsserted = false ∧ armedIn.NothingDue := by decide

/-- The venue with a POLL waiting at a lane. -/
def pollWaits (n : Lane) : State :=
  { venue with ports := venue.ports.set n { Port.reset with request := .waiting .poll } }

/-- For ArbiterChoosesByClass: each class of the order, its item alone, and a command in flight. -/
theorem test_witness_ArbiterChoosesByClass :
    (venue.rstAsserted = false ∧ venue.restarting = false ∧ venue.chosen = none ∧ venue.commands = []) ∧
    (let lanes := venue.lanes.set 1 (completedUnit .IN .expiry);
      (lanes.get 1).completion ≠ none ∧ ∀ m < (1 : Lane), (lanes.get m).completion = none) ∧
    (let lanes := venue.lanes.set 5 { LaneUnit.reset with forcedReports := 1 };
      0 < (lanes.get 5).forcedReports ∧ (∀ m < (5 : Lane), (lanes.get m).forcedReports = 0) ∧
        ∀ m : Lane, (lanes.get m).completion = none) ∧
    (∀ m : Lane, (venue.lanes.get m).completion = none ∧ (venue.lanes.get m).forcedReports = 0) ∧
    (((pollWaits 1).ports.get 1).request = .waiting .poll ∧ (1 : Lane) = (pollWaits 1).pointer + 5 ∧
      (∀ j < (5 : Fin 6), ((pollWaits 1).ports.get ((pollWaits 1).pointer + j)).request.isWaiting = false) ∧
      (pollWaits 1).turn = .lane ∧ (pollWaits 1).gc.events = []) ∧
    ((∀ n : Lane, (venue.ports.get n).request.isWaiting = false) ∧ venue.uplink.slot.isWaiting = false) ∧
    (∃ s : State, s.commands = .withdraw 2 :: [] ∧ s.chosen = none ∧
      ∃ t, exec .withdrawCommand s = .next t ∧ (t.lanes.get 2).state = .locked) :=
  ⟨by decide, by decide, by decide, by decide, by decide, by decide,
    { armedIn with commands := [.withdraw 2] }, rfl, rfl, _, rfl, rfl⟩

/-- For JournalServicesAppendOneEntry. -/
theorem test_witness_JournalServicesAppendOneEntry :
    (taking venue (.forcedReport 3)).Takes (.forcedReport 3) ∧
    (∃ s : State, s.Takes .gateEvent ∧ s.gc.events = .linkLost :: [] ∧ s.journal.length < 1024) ∧
    ∃ (s : State) (r : Record), s.Takes .backfill ∧ s.table.wf = true ∧ s.journal.length < 1024 ∧
      s.table.get? 0 = some r ∧ r.pendingReport = true :=
  ⟨by decide, ⟨taking { venue with gc := { venue.gc with events := [.linkLost] } } .gateEvent, by decide⟩,
    taking (holding { recordA .inside 1 with pendingReport := true }) .backfill,
    { recordA .inside 1 with pendingReport := true }, by decide⟩

/-- A full journal. -/
def fullJournal : List Entry := List.replicate 1024 (forcedEntry 0)

/-- For JournalServicesAppendOneEntry and the reports of a full journal: 1,024 entries. -/
theorem test_witness_full_journal :
    1024 ≤ ({ taking venue (.forcedReport 3) with journal := fullJournal } : State).journal.length :=
  Nat.le_of_eq List.length_replicate.symm

/-- Lane 2 with a completion of a hold, chosen by the arbiter. -/
def ending (d : Side) (c : Completion) : State :=
  taking (heldBy (hold2 d) 1 (completedUnit d c)) (.completion 2)

/-- For EntryCommitAdmits, ExitCommitPassesOut and HoldsEndWithoutPassage. -/
theorem test_witness_completions :
    (∀ d ∈ [Side.IN, Side.OUT],
      ∀ c ∈ [Completion.commit ⟨1004002, 7⟩, .expiry, .withdrawn],
        (ending d c).Takes (.completion 2) ∧ ((ending d c).lanes.get 2).completion = some c ∧
        ((ending d c).contexts.get 2).holdRef = some ⟨ticketA, 0⟩ ∧
        (ending d c).table.get? 0 = some (recordA (.held (hold2 d)) 1) ∧ (hold2 d).direction = d) ∧
    (hold2 .IN).reservedZone = some 3 ∧
    ((laneAsked armedIn .cancel).TakesLane 2 .cancel ∧ ((laneAsked armedIn .cancel).lanes.get 2).state = .armed ∧
      ((laneAsked armedIn .cancel).contexts.get 2).holdRef = some ⟨ticketA, 0⟩) := by decide

/-- For PollReportsAndClears: a POLL, a CANCEL with no hold, and a CANCEL in TURNING. -/
theorem test_witness_PollReportsAndClears :
    (laneAsked armedIn .poll).TakesLane 2 .poll ∧
    ((laneAsked venue .cancel).TakesLane 2 .cancel ∧ ((laneAsked venue .cancel).contexts.get 2).holdRef = none) ∧
    ∃ s : State, s.TakesLane 2 .cancel ∧ (s.contexts.get 2).holdRef ≠ none ∧ (s.lanes.get 2).state ≠ .armed :=
  ⟨by decide, by decide, laneAsked (heldBy (hold2 .IN) 0 (turningUnit 30)) .cancel, by decide⟩

/-- For CredentialsNormalize: lengths at the edges, and a character beyond each end of the digits. -/
theorem test_witness_CredentialsNormalize :
    (textA.take 17).length ≠ 18 ∧ (∃ b ∈ textA.set 0 0x2F, b.toNat < 0x30 ∨ 0x39 < b.toNat) ∧
    (∃ b ∈ textA.set 17 0x3A, b.toNat < 0x30 ∨ 0x39 < b.toNat) ∧
    ([1, 2, 3, 4] : Uid).length = 4 ∧ ¬(([1, 2, 3, 4, 5] : Uid).length = 4 ∨ ([1, 2, 3, 4, 5] : Uid).length = 7 ∨
      ([1, 2, 3, 4, 5] : Uid).length = 10) ∧
    (∃ b ∈ payloadA.set 8 0x4A, 9 < b.toNat / 16 ∨ 9 < b.toNat % 16) := by decide

/-- The credential of ticket A's barcode at a side. -/
def codeA (side : Side) : Credential := ⟨.code, side, .wellFormed, some ⟨3, 7⟩, some ticketA, none⟩

/-- For LaneChecksInOrder: the gate states, the sides of each role, and a lane with and without a hold. -/
theorem test_witness_LaneChecksInOrder :
    venue.gc.gate = .opened ∧ State.reset.gc.gate = .closed ∧ (State.reset.lanes.get 2).role = .off ∧
    ((codeA .OUT).side = .OUT ∧ (codeA .IN).outcome = .wellFormed ∧ (codeA .IN).ticket = some ticketA) ∧
    ((armedIn.contexts.get 2).holdRef = some ⟨ticketA, 0⟩ ∧
      armedIn.heldAt 2 = some (0, recordA (.held (hold2 .IN)) 0, hold2 .IN)) ∧
    ((start48.contexts.get 2).holdRef = none ∧ start48.table.lookup ticketA = some (0, recordA .valid 0)) ∧
    start48.table.lookup ticketB = none := by decide

/-- For RefusalsAndRepeatsChangeNoRecord and GrantsHoldTheRecord: each decision arises, by code and by card. -/
theorem test_witness_presentations :
    (laneAsked start48 (.code .IN textA)).Presents .presentCode 2 (codeA .IN) ∧
    (laneAsked start48 (.code .IN textA)).decision 2 (codeA .IN) = .grant 0 (recordA .valid 0) ∧
    (laneAsked venue (.code .IN textA)).decision 2 (codeA .IN) = .refuse .unknown ∧
    (laneAsked (holding (recordA .inside 1)) (.code .IN textA)).decision 2 (codeA .IN)
      = .refuseRecord .alreadyInside (recordA .inside 1) ∧
    (laneAsked armedIn (.code .IN textA)).decision 2 (codeA .IN)
      = .repeatGrant (recordA (.held (hold2 .IN)) 0) (hold2 .IN) ∧
    (laneAsked start48 (.card .OUT [1, 2, 3, 4] payloadA)).Presents .presentCard 2
      ⟨.card, .OUT, .wellFormed, some ⟨3, 7⟩, some ticketA, some [1, 2, 3, 4]⟩ :=
  ⟨.inl ⟨rfl, .IN, textA, by decide, by decide⟩, by decide, by decide, by decide, by decide,
    .inr ⟨rfl, .OUT, [1, 2, 3, 4], payloadA, by decide, by decide⟩⟩

/-- For TransfersReadTheReply, LaneFramesAreUnderstood and BadFramesAreAnswered: transfers without a request, with a
POLL and with a bad check byte. -/
theorem test_witness_transfers :
    (venue.ports.get 2).transfer = .none ∧ (Port.powerOn true).transfer = .ignored ∧
    (bytesOfBits (bitsOfBytes [0, 7])).head? = some 0x00 ∧ (bytesOfBits []).head? = none ∧
    (LaneRequest.code .IN (List.replicate 45 0x30)).content.length = 47 ∧
    parseInbound (bytesOfBits (bitsOfBytes [0x02, 0x44, 0xBA, 0x55])) = .request .poll ∧
    parseInbound (bytesOfBits (bitsOfBytes [0x02, 0x44, 0xBB])) = .badFrame := by decide

/-- For LaneFramesAreUnderstood and BadFramesAreAnswered: a transfer in progress at a running part, with the bits of
a POLL and of a bad frame. -/
theorem test_witness_transfer_in_progress :
    ∃ s : State, s.rstAsserted = false ∧ (s.ports.get 2).transfer = .active none false ∧
      parseInbound (bytesOfBits (bitsOfBytes [0x02, 0x44, 0xBA])) = .request .poll ∧
      parseInbound (bytesOfBits (bitsOfBytes [0x02, 0x44, 0xBB])) = .badFrame :=
  ⟨{ venue with ports := venue.ports.set 2 { Port.reset with transfer := .active none false } }, by decide⟩

/-- For TransfersReadTheReply: a transfer in progress, with a reply noted and without, and bits of filler. -/
theorem test_witness_TransfersReadTheReply :
    ∀ noted ∈ [none, some (LaneReply.badFrame false)], ∃ s : State, s.rstAsserted = false ∧
      (s.ports.get 2).transfer = .active noted false ∧ (bytesOfBits (bitsOfBytes [0, 0])).head? = some 0x00 :=
  fun noted _ =>
    ⟨{ venue with ports := venue.ports.set 2 { Port.reset with transfer := .active noted false } }, rfl, rfl, rfl⟩

/-- For LaneFramesAreUnderstood: a noted reply, all of whose bytes were clocked out while a POLL came in, and one that
was not; the LSOn clauses. -/
theorem test_witness_LaneFramesAreUnderstood :
    ∃ s : State, s.rstAsserted = false ∧ (s.ports.get 2).transfer = .active (some (.badFrame false)) false ∧
      (s.ports.get 2).request = .empty ∧
      parseInbound (bytesOfBits (bitsOfBytes [0x02, 0x44, 0xBA, 0])) = .request .poll ∧
      8 * (LaneReply.badFrame false).frame.length ≤ (bitsOfBytes [0x02, 0x44, 0xBA, 0]).length ∧
      ¬8 * (LaneReply.badFrame false).frame.length ≤ (bitsOfBytes [0x02, 0x44, 0xBA]).length ∧
      (s.ports.get 3).transfer = .none ∧
      s.laneOutBit 2 7 = some true ∧ { s with rstAsserted := true }.laneOutBit 2 7 = some false :=
  ⟨{ venue with
      ports := venue.ports.set 2
        { Port.reset with
          reply := some (.badFrame false), ready := true, transfer := .active (some (.badFrame false)) false } },
    by decide⟩

/-- For BadFramesAreAnswered: one frame for each fault, at the edges of the lengths. -/
theorem test_witness_BadFramesAreAnswered :
    (1 : Byte).toNat = 1 ∧ 48 < (49 : Byte).toNat ∧ ([0x44] : List Byte).length < (2 : Byte).toNat ∧
    ((2 : Byte) :: ([0x44, 0xBB] : List Byte).take 2).foldl (· + ·) 0 ≠ 0 ∧
    (∀ type ∈ ([0x45, 0xB9] : List Byte).head?, type ∉ [(0x41 : Byte), 0x42, 0x43, 0x44]) ∧
    (([0x42, 1, 4, 0xB4] : List Byte).head? = some 0x42 ∧
      (4 : Byte).toNat < (byteAt [0x42, 1, 4, 0xB4] 2).toNat + 4) ∧
    (([0x41, 3, 0xB9] : List Byte).head? = some 0x41 ∧ byteAt [0x41, 3, 0xB9] 1 ≠ 0x01 ∧
      byteAt [0x41, 3, 0xB9] 1 ≠ 0x02) := by decide

/-- For ReceiverFollowsTheFrame: a sound character, a parity error and a framing error, at receivers with no
complete frame. -/
theorem test_witness_ReceiverFollowsTheFrame :
    (Receiver.hunt).complete? = none ∧ (Receiver.header [0xA5, 0x04]).complete? = none ∧
    (Receiver.body 0 [0xA5, 0, 0, 0x70]).complete? = none ∧
    (onesOf 0xA5 + bitValue false) % 2 = 0 ∧ (onesOf 0xA5 + bitValue true) % 2 = 1 := by decide

/-- For FrameArrivalFillsTheSlot: a good and a bad frame, the slot EMPTY and taken. -/
theorem test_witness_FrameArrivalFillsTheSlot :
    ([0xA5, 0, 0, 0x70, 0xEB] : List Byte).length = 0 + 5 ∧
    ([0xA5, 0, 0, 0x70, 0xEB] : List Byte).foldl (· + ·) 0 = 0 ∧
    ([0xA5, 0, 0, 0x70, 0xEC] : List Byte).foldl (· + ·) 0 ≠ 0 ∧
    venue.uplink.slot = .empty ∧ (asked venue 0x70 []).uplink.slot ≠ .empty := by decide

/-- For UplinkFramesAreUnderstood: payloads of 0 and of 1,024 bytes. -/
theorem test_witness_UplinkFramesAreUnderstood :
    (venue.rstAsserted = false ∧ venue.uplink.receiver = .hunt ∧ venue.uplink.slot = .empty) ∧
    ([] : List Byte).length ≤ 1024 ∧ (List.replicate 1024 (0 : Byte)).length ≤ 1024 := by
  exact ⟨by decide, by decide, Nat.le_of_eq List.length_replicate⟩

/-- For UplinkFramesAreUnderstood: UTXD with no reply, with RST asserted and with the warm reset due; and a reply at
the head, whose frame's first and last bytes are named. -/
theorem test_witness_UplinkFramesAreUnderstood_utxd :
    venue.uplink.replies = [] ∧ resetting.rstAsserted = true ∧ restarted.warmResetDue = true ∧
    ∃ s : State, s.rstAsserted = false ∧ s.warmResetDue = false ∧ s.uplink.replies = ⟨0x71, .ok, []⟩ :: [] ∧
      (⟨0x71, .ok, []⟩ : UplinkReply).frame[0]? = some 0xA5 ∧
      (⟨0x71, .ok, []⟩ : UplinkReply).frame[5]? = some 0xE9 :=
  ⟨rfl, rfl, rfl, { venue with uplink := { venue.uplink with replies := [⟨0x71, .ok, []⟩] } }, by decide⟩

/-- For RepliesLeaveInOrder: a BUSY reply and the slot's reply at the head. -/
theorem test_witness_RepliesLeaveInOrder :
    ∀ st ∈ [Status.busy, .ok], ∃ s : State, s.rstAsserted = false ∧ s.warmResetDue = false ∧
      s.uplink.replies = ⟨0x70, st, []⟩ :: [] := fun st _ =>
  ⟨{ venue with uplink := { venue.uplink with replies := [⟨0x70, st, []⟩] } }, rfl, rfl, rfl⟩

/-- For LayoutsReadBack: a record with both optional fields, and the greatest cooldown. -/
theorem test_witness_LayoutsReadBack :
    (∃ r : Record, r.Ok ∧ r.hold? = none ∧ r.pendingReport = false ∧ r.binding ≠ none ∧ r.lastPassage ≠ none) ∧
    { class4 with cooldown := 3600 }.cooldown ≤ 3600 ∧ packedA.length = 8 := by
  refine ⟨⟨{ recordA .outside 1 with
      lastPassage := some ⟨⟨1004000, 0⟩, .gate 12⟩, binding := some [1, 2, 3, 4] }, ⟨?_, ?_, ?_, ?_⟩, rfl, rfl,
    by decide, by decide⟩, by decide, by decide⟩
  · exact (by decide : (1 : Fin 16) ≠ 0)
  · intro h hh; cases hh
  · intro u hu; cases hu; decide
  · intro lp hl; cases hl; decide

/-- For LayoutsReadBack: entries with and without record fields. -/
theorem test_witness_LayoutsReadBack_entries :
    (forcedEntry 0).Ok ∧ (⟨1, .admission, .lane 2, ⟨7200, 0⟩, some ⟨ticketA, 4, 3, .inside, 1⟩⟩ : Entry).Ok :=
  ⟨⟨rfl, by intro f hf; cases hf⟩, ⟨rfl, by intro f hf; cases hf; decide⟩⟩

/-- Records of ticket B in `k` slots from a slot on. -/
def filledFrom : Nat → Nat → Table
  | _, 0 => []
  | slot, k + 1 => (slot, { recordA .valid 0 with ticket := ticketB }) :: filledFrom (slot + 1) k

/-- What LOAD_TICKET reads of a filled table. -/
theorem filledFrom_spec (k : Nat) : ∀ slot, slot + k ≤ 16384 →
    (filledFrom slot k).length = k ∧ (filledFrom slot k).wfFrom slot = true ∧
      (filledFrom slot k).lookup ticketA = none := by
  induction k with
  | zero => intro slot _; exact ⟨rfl, rfl, rfl⟩
  | succ k ih =>
    intro slot h
    obtain ⟨h1, h2, h3⟩ := ih (slot + 1) (by omega)
    refine ⟨by simp [filledFrom, h1], ?_, ?_⟩
    · have hk : slot < 16384 := by omega
      simp [filledFrom, Table.wfFrom, h2, Config.tableCapacity, hk]
    · have : ticketB ≠ ticketA := by decide
      simp [filledFrom, Table.lookup, this, h3]

/-- For LoadTicketInsertsOrReplaces and TABLE_FULL: a table of 16,384 records without ticket A. -/
theorem test_witness_full_table :
    ∃ s : State, s.TakesUplink 0x10 (packedA ++ [4, 1, 0] ++ List.replicate 19 0) ∧ s.table.wf = true ∧
      s.table.length = 16384 ∧ s.table.lookup ticketA = none :=
  ⟨{ asked venue 0x10 (packedA ++ [4, 1, 0] ++ List.replicate 19 0) with table := filledFrom 0 16384 },
    ⟨⟨rfl, rfl, rfl⟩, rfl⟩, (filledFrom_spec 16384 0 (by omega)).2.1, (filledFrom_spec 16384 0 (by omega)).1,
    (filledFrom_spec 16384 0 (by omega)).2.2⟩

/-- For LoadTicketInsertsOrReplaces, from R32 and R208: a block with each fault of the record test, and blocks at the
edges of what passes it. -/
theorem test_witness_record_faults :
    (∀ p ∈ [blockA 32 1 0, blockA 4 2 0, blockA 4 7 0, blockA 4 3 16, blockA 4 1 1, blockA 4 4 0,
        (blockA 4 1 0).set 11 1, ((blockA 4 3 1).set 11 1).set 18 6, ((blockA 4 3 1).set 11 1).set 17 1,
        (((blockA 4 3 1).set 11 1).set 17 1).set 18 64, ((blockA 4 3 1).set 11 1).set 17 2,
        ((blockA 4 3 1).set 11 2).set 19 5], recordOf? ticketA p = none) ∧
    ∀ p ∈ [blockA 31 1 0, blockA 4 5 15, blockA 4 6 0, ((blockA 4 6 0).set 11 1).set 18 5,
        (((blockA 4 3 1).set 11 1).set 17 1).set 18 63, ((blockA 4 3 1).set 11 2).set 19 10],
      recordOf? ticketA p ≠ none := by decide

/-- For LoadTicketInsertsOrReplaces: insertion, replacement, and what each refusal reads. -/
theorem test_witness_LoadTicketInsertsOrReplaces :
    ((asked venue 0x10 (blockA 4 1 0)).TakesUplink 0x10 (blockA 4 1 0) ∧ (blockA 4 1 0).length = 30 ∧
      (byteAt (blockA 4 1 0) 11).toNat < 16 ∧ venue.table.wf = true ∧ venue.table.length < 16384) ∧
    ticketOfBytes? ((blockA 4 1 0).take 8) = some ticketA ∧ ticketWellFormed ticketA = true ∧
    recordOf? ticketA (blockA 4 1 0) = some (recordA .valid 0) ∧ recordOf? ticketA (blockA 32 1 0) = none ∧
    ticketOfBytes? (((blockA 4 1 0).set 0 0xA8).take 8) = none ∧
    venue.table.lookup ticketA = none ∧ start48.table.lookup ticketA = some (0, recordA .valid 0) ∧
    (recordA .valid 0).isHeld = false ∧ (recordA (.held (hold2 .IN)) 0).isHeld = true := by decide

/-- For TableRequestsDropQueryAndClear. -/
theorem test_witness_TableRequestsDropQueryAndClear :
    ((asked start48 0x11 packedA).TakesUplink 0x11 packedA ∧ packedA.length = 8 ∧ start48.table.wf = true) ∧
    (asked armedIn 0x13 packedA).TakesUplink 0x13 packedA ∧
    ((asked start48 0x12 []).TakesUplink 0x12 [] ∧ start48.gc.gate ≠ .closed) ∧
    (∃ s : State, s.TakesUplink 0x12 [] ∧ s.gc.gate = .closed ∧ ∃ e ∈ s.table, e.2.isHeld = true) ∧
    ∃ s : State, s.TakesUplink 0x12 [] ∧ s.gc.gate = .closed ∧ s.table ≠ [] ∧ ∀ e ∈ s.table, e.2.isHeld = false :=
  ⟨by decide, by decide, by decide,
    ⟨asked { armedIn with gc := { venue.gc with gate := .closed } } 0x12 [], by decide⟩,
    ⟨asked { start48 with gc := { venue.gc with gate := .closed } } 0x12 [], by decide⟩⟩

/-- The SET_CLASS payload of class 4. -/
def class4Payload : List Byte := classPayload 4 class4

/-- For ClassesAndZonesAreWritten, at the edges of the mask and the flags, and for ClockAndThresholdsAreSet. -/
theorem test_witness_settings :
    ((asked venue 0x20 class4Payload).TakesUplink 0x20 class4Payload ∧ class4Payload.length = 15 ∧
      (byteAt class4Payload 0).toNat = 4 ∧ (byteAt class4Payload 9).toNat = 2 ∧
      (byteAt class4Payload 12).toNat = 3 ∧ (byteAt class4Payload 13).toNat = 63 ∧
      (byteAt class4Payload 14).toNat ≤ 15) ∧
    31 < (byteAt (class4Payload.set 0 32) 0).toNat ∧
    ((asked venue 0x21 [3, 3, 0, 0, 0, 0]).TakesUplink 0x21 [3, 3, 0, 0, 0, 0] ∧
      (byteAt [3, 3, 0, 0, 0, 0] 1).toNat < 4) ∧
    (asked venue 0x22 (bytes32 1004000)).TakesUplink 0x22 (bytes32 1004000) ∧
    (asked venue 0x23 []).TakesUplink 0x23 [] ∧
    (∀ v ∈ [0, 1, 1024, 1025, 65535], v < 65536 ∧ (asked venue 0x41 (bytes16 v)).TakesUplink 0x41 (bytes16 v)) ∧
    (asked venue 0x53 [1]).TakesUplink 0x53 [1] := by decide

/-- For NoteAdmitByRecordState and NoteExitAndRevokeByRecordState: an own and a foreign gate id, and every record
state. -/
theorem test_witness_notices :
    noticeA 12 = ticketBytes ticketA ++ [byteOf (12 : GateId).val] ++ bytes32 1004250 ++ [0] ∧
    ((12 : GateId) ≠ 0 ∧ (12 : GateId) ≠ venue.gc.gateId ∧ (7 : GateId) = venue.gc.gateId) ∧
    (∀ st ∈ [RecordState.valid, .held (hold2 .IN), .held (hold2 .OUT), .inside, .outside, .spent, .revoked],
      (asked (holding (recordA st 1)) 0x30 (noticeA 12)).TakesUplink 0x30 (noticeA 12) ∧
      (asked (holding (recordA st 1)) 0x31 (noticeA 12)).TakesUplink 0x31 (noticeA 12) ∧
      (asked (holding (recordA st 1)) 0x32 packedA).TakesUplink 0x32 packedA ∧
      (holding (recordA st 1)).table.wf = true ∧
      (holding (recordA st 1)).table.lookup ticketA = some (0, recordA st 1)) ∧
    ticketBytes ticketA = packedA ∧ venue.table.lookup ticketA = none := by decide

/-- For FaultyTicketFieldsAreRefused: a nibble of 10, and gate ids 0 and 64. -/
theorem test_witness_FaultyTicketFieldsAreRefused :
    (∃ b ∈ (packedA.set 3 0x1A).take 8, 9 < b.toNat / 16 ∨ 9 < b.toNat % 16) ∧
    (asked venue 0x11 (packedA.set 3 0x1A)).TakesUplink 0x11 (packedA.set 3 0x1A) ∧
    (byteAt (noticeA 0) 8).toNat = 0 ∧ 63 < (byteAt (noticeA 64) 8).toNat ∧ (noticeA 64).length = 14 ∧
    (asked venue 0x30 (noticeA 64)).TakesUplink 0x30 (noticeA 64) := by decide

/-- For TakeJournalDrainsTheHead, GateRequestsActByGateState and ReportsRestartAndUnknown. -/
theorem test_witness_reports :
    (∀ b ∈ [(0 : Byte), 16, 17, 255], (asked venue 0x40 [b]).TakesUplink 0x40 [b]) ∧
    ((asked venue 0x50 []).TakesUplink 0x50 [] ∧ (asked venue 0x51 []).TakesUplink 0x51 []) ∧
    (∀ g ∈ [(0 : Byte), 64, 63], (asked venue 0x52 [g, 0x37]).TakesUplink 0x52 [g, 0x37]) ∧
    ((63 : GateId) ≠ 0 ∧ ¬((3 : Digit) = 0 ∧ (7 : Digit) = 0) ∧
      ([63, 0x37] : List Byte) = [byteOf (63 : GateId).val, byteOf (16 * (3 : Digit).val + (7 : Digit).val)]) ∧
    (∀ b ∈ [(0 : Byte), 1, 2], (asked venue 0x61 [b]).TakesUplink 0x61 [b]) ∧
    ((asked venue 0x70 []).TakesUplink 0x70 [] ∧ (asked venue 0x71 []).TakesUplink 0x71 []) := by decide

/-- For ReportsRestartAndUnknown: an unknown type, a wrong length and a bad presence byte. -/
theorem test_witness_unknown :
    (catalogue 0x72 = none ∧ (asked venue 0x72 []).TakesUplink 0x72 [] ∧
      catalogue 0x70 = some (.status, 0) ∧ ([0] : List Byte).length ≠ 0 ∧
      (asked venue 0x21 [3, 4, 0, 0, 0, 0]).TakesUplink 0x21 [3, 4, 0, 0, 0, 0] ∧
      4 ≤ (byteAt [3, 4, 0, 0, 0, 0] 1).toNat) := by decide

/-- For SetLaneWritesRoleAndPreload: a faulty lane, a role change under a hold, and one without. -/
theorem test_witness_SetLaneWritesRoleAndPreload :
    (∀ p ∈ ([[6, 15, 2, 12, 95, 0], [2, 15, 2, 12, 95, 1]] : List (List Byte)),
      (asked armedIn 0x60 p).TakesUplink 0x60 p ∧ p.length = 6 ∧ (byteAt p 1).toNat < 16) ∧
    5 < (byteAt [6, 15, 2, 12, 95, 0] 0).toNat ∧
    (Role.exit.code = byteAt [2, 15, 2, 12, 95, 1] 2 ∧ Role.exit ≠ (armedIn.lanes.get 2).role ∧
      (armedIn.contexts.get 2).holdRef ≠ none) ∧
    (venue.contexts.get 2).holdRef = none := by decide

end Sys2Proof.Tests
end

section
/-! The uplink, character by character: what the receiver makes of a request's frame (R197), and what the part sends on
UTXD (R196, R201). -/

namespace Sys2Proof.Machine

/-! ### Runs of commands -/

theorem runCommands_cons_of_next {c : Instr} {s t : State} (h : exec c s = .next t) (rest : List Instr) :
    runCommands (c :: rest) s = runCommands rest t := by
  simp [runCommands, h]

theorem runCommands_append_of_next {l : List Instr} {s t : State} (h : runCommands l s = .next t)
    (rest : List Instr) : runCommands (l ++ rest) s = runCommands rest t := by
  induction l generalizing s with
  | nil => cases h; rfl
  | cons c l ih =>
    cases hc : exec c s with
    | next u =>
      rw [runCommands_cons_of_next hc] at h
      rw [List.cons_append, runCommands_cons_of_next hc, ih h]
    | fault f => simp [runCommands, hc] at h
    | refused r => simp [runCommands, hc] at h

/-! ### Characters -/

/-- The parity bit that a sender adds makes the ones even in number (R196). -/
theorem parityError_soundCharacter (b : Byte) : parityError (soundCharacter b) = false := by
  refine decide_eq_false ?_
  by_cases h : onesOf b % 2 = 1
  · simp only [soundCharacter, bitValue, h, decide_true, if_true]; omega
  · simp [soundCharacter, bitValue, h]

theorem sound_soundCharacter (b : Byte) : sound (soundCharacter b) = true := by
  rw [sound, parityError_soundCharacter]; rfl

@[simp] theorem soundCharacter_data (b : Byte) : (soundCharacter b).data = b := rfl

/-- The start byte takes the receiver out of HUNT (R197). -/
theorem Receiver.take_start : Receiver.hunt.take (soundCharacter 0xA5) = .header [0xA5] := by
  simp [Receiver.take, sound_soundCharacter]

theorem Receiver.take_highLength (start b : Byte) :
    (Receiver.header [start]).take (soundCharacter b) = .header [start, b] := by
  simp [Receiver.take, sound_soundCharacter]

/-- The second length byte opens the BODY of a length in range (R197). -/
theorem Receiver.take_lowLength (start high low : Byte) (h : 256 * high.toNat + low.toNat ≤ Config.maxPayload) :
    (Receiver.header [start, high]).take (soundCharacter low)
      = .body (256 * high.toNat + low.toNat) [start, high, low] := by
  simp [Receiver.take, sound_soundCharacter, byteAt, Nat.not_lt.mpr h]

theorem Receiver.take_body (length : Nat) (frame : List Byte) (b : Byte) :
    (Receiver.body length frame).take (soundCharacter b) = .body length (frame ++ [b]) := by
  simp [Receiver.take, sound_soundCharacter]

theorem Receiver.complete?_body_of_lt {length : Nat} {frame : List Byte} (h : frame.length < length + 5) :
    (Receiver.body length frame).complete? = none := by
  simp [Receiver.complete?, Nat.not_le.mpr h]

theorem Receiver.complete?_body_of_eq {length : Nat} {frame : List Byte} (h : frame.length = length + 5) :
    (Receiver.body length frame).complete? = some frame := by
  simp [Receiver.complete?, h]

/-- A length of up to 65,535 reads back from its two bytes (R1). -/
theorem value_bytes16 {n : Nat} (h : n < 65536) :
    256 * (byteOf (n / 256)).toNat + (byteOf n).toNat = n := by
  simp only [byteOf, BitVec.toNat_ofNat]
  omega

/-! ### A request's frame at the receiver -/

/-- The state with the receiver elsewhere in a frame: what a character changes (R197). -/
def State.receiving (s : State) (rx : Receiver) : State :=
  { s with uplink := { s.uplink with receiver := rx } }

theorem State.receiving_self {s : State} {rx : Receiver} (h : s.uplink.receiver = rx) : s.receiving rx = s := by
  rw [← h]; rfl

/-- CHARACTER_RECEIVED where no complete frame waits moves the receiver alone. -/
theorem exec_characterReceived_of_incomplete {s : State} (c : Character) (hrst : s.rstAsserted = false)
    (hrx : s.uplink.receiver.complete? = none) :
    exec (.characterReceived c) s = .next (s.receiving (s.uplink.receiver.take c)) := by
  simp [exec, execCharacterReceived, hrst, State.arrive_of_nothing s hrx, State.receiving]

/-- The commands of bytes sent to the receiver, with even parity and good stop bits. -/
def sentCharacters (l : List Byte) : List Instr :=
  l.map fun b => .characterReceived (soundCharacter b)

theorem sentCharacters_append (l m : List Byte) :
    sentCharacters (l ++ m) = sentCharacters l ++ sentCharacters m := List.map_append

/-- The first of the bytes sent moves the receiver, where no complete frame waits. -/
theorem runCommands_sentCharacters_cons {s : State} {rx : Receiver} (b : Byte) (l : List Byte)
    (hrst : s.rstAsserted = false) (hrx : rx.complete? = none) :
    runCommands (sentCharacters (b :: l)) (s.receiving rx)
      = runCommands (sentCharacters l) (s.receiving (rx.take (soundCharacter b))) :=
  runCommands_cons_of_next (exec_characterReceived_of_incomplete (s := s.receiving rx) _ hrst hrx) _

/-- The start byte and a length in range take a receiver in HUNT to the BODY of that length (R197). -/
theorem runCommands_header {s : State} {n : Nat} (hn : n ≤ Config.maxPayload) (hrst : s.rstAsserted = false) :
    runCommands (sentCharacters (0xA5 :: bytes16 n)) (s.receiving .hunt)
      = .next (s.receiving (.body n (0xA5 :: bytes16 n))) := by
  have hvalue : 256 * (byteOf (n / 256)).toNat + (byteOf n).toNat = n :=
    value_bytes16 (by simp only [Config.maxPayload] at hn; omega)
  rw [runCommands_sentCharacters_cons _ _ hrst rfl, Receiver.take_start, bytes16,
    runCommands_sentCharacters_cons _ _ hrst rfl, Receiver.take_highLength,
    runCommands_sentCharacters_cons _ _ hrst rfl, Receiver.take_lowLength _ _ _ (by rwa [hvalue]), hvalue]
  rfl

/-- In BODY the receiver gathers the bytes sent, up to the end of the frame (R197). -/
theorem runCommands_body {s : State} {n : Nat} (hrst : s.rstAsserted = false) (l frame : List Byte)
    (hlen : frame.length + l.length ≤ n + 5) :
    runCommands (sentCharacters l) (s.receiving (.body n frame)) = .next (s.receiving (.body n (frame ++ l))) := by
  induction l generalizing frame with
  | nil => simp [sentCharacters, runCommands]
  | cons b l ih =>
    rw [List.length_cons] at hlen
    have hopen : (Receiver.body n frame).complete? = none := Receiver.complete?_body_of_lt (by omega)
    rw [runCommands_sentCharacters_cons _ _ hrst hopen, Receiver.take_body, ih _ (by simp; omega),
      List.append_assoc, List.singleton_append]

theorem UplinkRequest.frame_length (r : UplinkRequest) : r.frame.length = r.payload.length + 5 := by
  simp [UplinkRequest.frame, bytes16]

theorem UplinkRequest.sum8_frame (r : UplinkRequest) : sum8 r.frame = 0 := sum8_append_checkByte _

theorem requestOfFrame_frame (r : UplinkRequest) : requestOfFrame r.frame = r := by
  simp [requestOfFrame, UplinkRequest.frame, bytes16, byteAt, bytesAt]

/-- The characters of a request's frame leave the whole frame in the receiver. -/
theorem runCommands_frame {s : State} {r : UplinkRequest} (hlen : r.payload.length ≤ Config.maxPayload)
    (hrst : s.rstAsserted = false) :
    runCommands (sentCharacters r.frame) (s.receiving .hunt)
      = .next (s.receiving (.body r.payload.length r.frame)) := by
  have hsplit : r.frame = (0xA5 :: bytes16 r.payload.length) ++ r.frame.drop 3 := rfl
  have hcount : (0xA5 :: bytes16 r.payload.length).length + (r.frame.drop 3).length ≤ r.payload.length + 5 := by
    rw [← List.length_append, ← hsplit, r.frame_length]
  rw [hsplit, sentCharacters_append, runCommands_append_of_next (runCommands_header hlen hrst)]
  exact runCommands_body hrst _ _ hcount

/-- A well-formed frame's arrival at an EMPTY slot restarts the link monitor and hands the request over
(R177, R199). -/
theorem exec_uplinkFrameArrival_of_empty {s : State} {frame : List Byte} (hrst : s.rstAsserted = false)
    (hrx : s.uplink.receiver.complete? = some frame) (hsum : sum8 frame = 0) (hslot : s.uplink.slot = .empty) :
    exec .uplinkFrameArrival s = .next
      { s with
        gc := s.gc.hearFrame
        uplink := { s.uplink with receiver := .hunt, slot := .waiting (requestOfFrame frame) } } := by
  simp [exec, execUplinkFrameArrival, hrst, State.arrive, hrx, hsum, UplinkPort.takeRequest, hslot]

/-- A well-formed frame makes the link ONLINE and restarts its monitor (R177). -/
theorem GateController.hearFrame_link (g : GateController) :
    g.hearFrame.link = .online ∧ g.hearFrame.monitorCount = 0 := by
  cases h : g.link <;> simp [GateController.hearFrame, h, GateController.raise_eq]

/-- A request's frame, character by character, and its arrival: the request stands in the slot, and beside it only the
link monitor has changed. -/
theorem runCommands_frame_arrival {s : State} {r : UplinkRequest} (hlen : r.payload.length ≤ Config.maxPayload)
    (hrst : s.rstAsserted = false) (hrx : s.uplink.receiver = .hunt) (hslot : s.uplink.slot = .empty) :
    runCommands (sentCharacters r.frame ++ [.uplinkFrameArrival]) s = .next
      { s with gc := s.gc.hearFrame, uplink := { s.uplink with slot := .waiting r } } := by
  have harrive := exec_uplinkFrameArrival_of_empty (s := s.receiving (.body r.payload.length r.frame)) hrst
    (Receiver.complete?_body_of_eq r.frame_length) r.sum8_frame hslot
  have hframe := runCommands_frame (s := s) hlen hrst
  rw [State.receiving_self hrx] at hframe
  rw [runCommands_append_of_next hframe, runCommands_cons_of_next harrive, requestOfFrame_frame, ← hrx]
  rfl

/-! ### UTXD -/

theorem lineLevels_length (c : Character) : (lineLevels c).length = 11 := rfl

/-- Bit times 1 to 8 of a character carry its data bits (R196). -/
theorem lineLevels_data (c : Character) {i : Nat} (hi : i < 8) :
    (lineLevels c)[1 + i]? = some (bitAt c.data i) := by
  interval_cases i <;> rfl

/-- Where every piece has the same length, a position of the whole is a piece and a position in it. -/
theorem getElem?_flatMap_of_length {α β : Type} {f : α → List β} {n : Nat} (hf : ∀ a, (f a).length = n)
    {l : List α} {k i : Nat} {a : α} (hk : l[k]? = some a) (hi : i < n) :
    (l.flatMap f)[n * k + i]? = (f a)[i]? := by
  induction l generalizing k with
  | nil => simp at hk
  | cons b l ih =>
    rw [List.flatMap_cons]
    cases k with
    | zero =>
      obtain rfl : b = a := by simpa using hk
      rw [Nat.mul_zero, Nat.zero_add, List.getElem?_append_left (by rw [hf]; exact hi)]
    | succ k =>
      have hpast : n * (k + 1) + i = n + (n * k + i) := by ring
      rw [hpast, List.getElem?_append_right (by rw [hf]; omega), hf, Nat.add_sub_cancel_left]
      exact ih (by simpa using hk)

/-- A reply takes 11 bit times a character (R196). -/
theorem UplinkReply.levels_length (r : UplinkReply) : r.levels.length = 11 * r.frame.length := by
  simp [UplinkReply.levels, List.length_flatMap, lineLevels_length, Nat.mul_comm]

/-- The level at a bit time of a character of a reply is the level at that bit time of the character alone. -/
theorem UplinkReply.levels_getElem? (r : UplinkReply) {k i : Nat} {b : Byte} (hk : r.frame[k]? = some b)
    (hi : i < 11) : r.levels[11 * k + i]? = (lineLevels (soundCharacter b))[i]? :=
  getElem?_flatMap_of_length (fun _ => lineLevels_length _) hk hi

/-- UTXD idles under RST, once the warm reset is due, and with no reply to send (R201, R205, R206). -/
theorem State.utxd_idle {s : State} (h : s.rstAsserted = true ∨ s.warmResetDue = true ∨ s.uplink.replies = [])
    (i : Nat) : s.utxd i = true := by
  obtain h | h | h := h <;> simp [State.utxd, h]

section
variable {s : State} {r : UplinkReply} {rest : List UplinkReply}

/-- UTXD carries the reply at the buffer's head (R201). -/
theorem State.utxd_of_reply (hrst : s.rstAsserted = false) (hdue : s.warmResetDue = false)
    (hreply : s.uplink.replies = r :: rest) (i : Nat) : s.utxd i = r.levels[i]?.getD true := by
  simp [State.utxd, hrst, hdue, hreply]

theorem State.utxd_after_reply (hrst : s.rstAsserted = false) (hdue : s.warmResetDue = false)
    (hreply : s.uplink.replies = r :: rest) {i : Nat} (hi : 11 * r.frame.length ≤ i) : s.utxd i = true := by
  rw [State.utxd_of_reply hrst hdue hreply, List.getElem?_eq_none (by rwa [r.levels_length]), Option.getD_none]

/-- UTXD during a character of the reply carries that character's levels. -/
theorem State.utxd_of_character (hrst : s.rstAsserted = false) (hdue : s.warmResetDue = false)
    (hreply : s.uplink.replies = r :: rest) {k i : Nat} {b : Byte} (hk : r.frame[k]? = some b) (hi : i < 11) :
    s.utxd (11 * k + i) = (lineLevels (soundCharacter b))[i]?.getD true := by
  rw [State.utxd_of_reply hrst hdue hreply, r.levels_getElem? hk hi]

/-- Start bit, data bits, parity bit and stop bit of a character of the reply on UTXD (R196). -/
theorem State.utxd_levels (hrst : s.rstAsserted = false) (hdue : s.warmResetDue = false)
    (hreply : s.uplink.replies = r :: rest) {k : Nat} {b : Byte} (hk : r.frame[k]? = some b) :
    s.utxd (11 * k) = false ∧ (∀ i < 8, s.utxd (11 * k + 1 + i) = bitAt b i) ∧
      s.utxd (11 * k + 9) = decide (onesOf b % 2 = 1) ∧ s.utxd (11 * k + 10) = true := by
  have hlevel {i : Nat} (hi : i < 11) := State.utxd_of_character hrst hdue hreply hk hi
  refine ⟨hlevel (i := 0) (by omega), fun i hi => ?_, hlevel (i := 9) (by omega), hlevel (i := 10) (by omega)⟩
  rw [Nat.add_assoc, hlevel (by omega), lineLevels_data _ hi]
  rfl

end

end Sys2Proof.Machine

open Sys2Proof.Machine

/-- Settles O47: the header and the body of a frame, its arrival, and the levels of UTXD character by character. -/
theorem uplinkFramesAreUnderstood : Obligations.UplinkFramesAreUnderstood := by
  refine ⟨fun r s hlen hrst hrx hslot => ?_, fun b => ⟨rfl, sound_soundCharacter b⟩,
    fun s i h => State.utxd_idle h i, fun s r rest hrst hdue hreply => ⟨fun i hi => ?_, fun k b hk => ?_⟩,
    fun u => rfl⟩
  · obtain ⟨honline, hcount⟩ := s.gc.hearFrame_link
    exact ⟨_, runCommands_frame_arrival hlen hrst hrx hslot, rfl, honline, hcount⟩
  · exact State.utxd_after_reply hrst hdue hreply hi
  · exact State.utxd_levels hrst hdue hreply hk
end

section
/-! Packed decimal digits, and the ticket numbers and credentials made of them (R6 to R15). -/

namespace Sys2Proof.Machine

/-! ### Digits -/

theorem digit?_eq_some {n : Nat} {d : Digit} : digit? n = some d ↔ n = d.val := by
  unfold digit?
  split
  · rw [Option.some_inj, Fin.ext_iff]
  · have := d.isLt
    simp only [reduceCtorEq, false_iff]
    omega

/-- Numbers read as digits exactly when they are the digits' values. -/
theorem digits?_eq_some {ns : List Nat} {ds : List Digit} : digits? ns = some ds ↔ ns = ds.map (·.val) := by
  induction ns generalizing ds with
  | nil => cases ds <;> simp [digits?]
  | cons n ns ih =>
    cases ds with
    | nil =>
      simp only [digits?, List.map_nil, reduceCtorEq, iff_false]
      split <;> simp
    | cons d ds =>
      rw [List.map_cons, List.cons.injEq, ← digit?_eq_some, ← ih, digits?]
      split
      · rename_i a as ha has; simp [ha, has]
      · rename_i hnone
        simp only [reduceCtorEq, false_iff]
        exact fun ⟨hd, hds⟩ => hnone d ds hd hds

/-- One number above 9 is enough to refuse them all. -/
theorem digits?_eq_none {ns : List Nat} {n : Nat} (hmem : n ∈ ns) (hbig : 9 < n) : digits? ns = none := by
  cases h : digits? ns with
  | none => rfl
  | some ds =>
    rw [digits?_eq_some.mp h] at hmem
    obtain ⟨d, -, rfl⟩ := List.mem_map.mp hmem
    omega

/-! ### Nibbles -/

@[simp] theorem byteOf_toNat (n : Nat) : (byteOf n).toNat = n % 256 := BitVec.toNat_ofNat n 8

@[simp] theorem nibbles_length (l : List Byte) : (nibbles l).length = 2 * l.length := by
  induction l with
  | nil => rfl
  | cons b l ih => simp [nibbles, ih]; omega

theorem high_mem_nibbles {l : List Byte} {b : Byte} (h : b ∈ l) : b.toNat / 16 ∈ nibbles l := by
  induction h with
  | head => exact List.mem_cons_self
  | tail _ _ ih => exact List.mem_cons_of_mem _ (List.mem_cons_of_mem _ ih)

theorem low_mem_nibbles {l : List Byte} {b : Byte} (h : b ∈ l) : b.toNat % 16 ∈ nibbles l := by
  induction h with
  | head => exact List.mem_cons_of_mem _ List.mem_cons_self
  | tail _ _ ih => exact List.mem_cons_of_mem _ (List.mem_cons_of_mem _ ih)

/-- A nibble above 9 refuses the packed digits (R9, R15). -/
theorem digits?_nibbles_eq_none {l : List Byte} (h : ∃ b ∈ l, 9 < b.toNat / 16 ∨ 9 < b.toNat % 16) :
    digits? (nibbles l) = none := by
  obtain ⟨b, hb, hhigh | hlow⟩ := h
  · exact digits?_eq_none (high_mem_nibbles hb) hhigh
  · exact digits?_eq_none (low_mem_nibbles hb) hlow

/-- A byte is the pack of two digits exactly when they are its nibbles. -/
theorem eq_byteOf_pair_iff {b : Byte} {x y : Digit} :
    b = byteOf (16 * x.val + y.val) ↔ b.toNat / 16 = x.val ∧ b.toNat % 16 = y.val := by
  rw [← BitVec.toNat_inj, byteOf_toNat]
  omega

/-- Packing an even number of digits and taking bytes apart into nibbles are inverse to each other. -/
theorem nibbles_eq_iff {l : List Byte} {ds : List Digit} (heven : ds.length % 2 = 0) :
    nibbles l = ds.map (·.val) ↔ l = packDigits ds := by
  induction l generalizing ds with
  | nil =>
    match ds with
    | [] => simp [nibbles, packDigits]
    | x :: y :: ds => simp [nibbles, packDigits]
  | cons b l ih =>
    match ds with
    | [] => simp [nibbles, packDigits]
    | x :: y :: ds =>
      have heven' : ds.length % 2 = 0 := by simp only [List.length_cons] at heven; omega
      simp only [nibbles, packDigits, List.map_cons, List.cons.injEq, ih heven', eq_byteOf_pair_iff, and_assoc]

/-! ### Ticket numbers -/

theorem ticketOfDigits?_eq_some {l : List Digit} {t : Ticket} : ticketOfDigits? l = some t ↔ l = t.toList := by
  unfold ticketOfDigits?
  split
  · rw [Option.some_inj, ← Vector.toList_inj]; rfl
  · rename_i hlen
    simp only [reduceCtorEq, false_iff]
    rintro rfl
    exact hlen t.length_toList

theorem ticketOfDigits?_eq_none {l : List Digit} (h : l.length ≠ 16) : ticketOfDigits? l = none := dif_neg h

theorem nibbles_eq_ticket_iff {l : List Byte} {t : Ticket} :
    nibbles l = t.toList.map (·.val) ↔ l = ticketBytes t :=
  nibbles_eq_iff (by rw [Vector.length_toList])

/-- The packed digits of a ticket number, and they alone, read back as it (R14). -/
theorem ticketOfBytes?_eq_some {l : List Byte} {t : Ticket} : ticketOfBytes? l = some t ↔ l = ticketBytes t := by
  rw [← nibbles_eq_ticket_iff, ← digits?_eq_some, ticketOfBytes?]
  split
  · rename_i ds hds
    rw [ticketOfDigits?_eq_some, hds, Option.some_inj]
  · rename_i hnone
    rw [hnone]
    simp

@[simp] theorem ticketOfBytes?_ticketBytes (t : Ticket) : ticketOfBytes? (ticketBytes t) = some t :=
  ticketOfBytes?_eq_some.mpr rfl

theorem ticketOfBytes?_eq_none {l : List Byte} (h : ∃ b ∈ l, 9 < b.toNat / 16 ∨ 9 < b.toNat % 16) :
    ticketOfBytes? l = none := by
  rw [ticketOfBytes?, digits?_nibbles_eq_none h]

@[simp] theorem ticketBytes_length (t : Ticket) : (ticketBytes t).length = 8 := by
  have h := congrArg List.length (nibbles_eq_ticket_iff.mpr (rfl : ticketBytes t = ticketBytes t))
  simp only [nibbles_length, List.length_map, Vector.length_toList] at h
  omega

/-! ### Credentials -/

theorem toList_take_fifteen (t : Ticket) :
    t.toList.take 15 = [t[0], t[1], t[2], t[3], t[4], t[5], t[6], t[7], t[8], t[9], t[10], t[11], t[12], t[13],
      t[14]] := by
  refine List.ext_getElem (by simp) fun i hi _ => ?_
  have : i < 15 := by simpa using hi
  interval_cases i <;> simp

/-- The check digit is right when all sixteen digits, weighted 3 and 1 in turn from the first, add up to a multiple
of ten (R12, R13). -/
theorem ticketWellFormed_iff (t : Ticket) :
    ticketWellFormed t = true ↔
      (t[15].val + 3 * t[0].val + t[1].val + 3 * t[2].val + t[3].val + 3 * t[4].val + t[5].val
        + 3 * t[6].val + t[7].val + 3 * t[8].val + t[9].val + 3 * t[10].val + t[11].val + 3 * t[12].val
        + t[13].val + 3 * t[14].val) % 10 = 0 := by
  have hlast := t[15].isLt
  simp only [ticketWellFormed, decide_eq_true_eq, checkValue, toList_take_fifteen, weightedSum]
  omega

theorem credentialOfDigits_ticket (form : Form) (side : Side) (uid : Option Uid) (cluster : EventCode)
    (tens units : Digit) (t : Ticket) :
    credentialOfDigits form side uid cluster (tens :: units :: t.toList)
      = ⟨form, side, outcomeOf cluster ⟨tens, units⟩ t, some ⟨tens, units⟩, some t, uid⟩ := by
  rw [credentialOfDigits, ticketOfDigits?_eq_some.mpr rfl]

/-- Digits that are not eighteen make no credential (R6, R9). -/
theorem credentialOfDigits_of_length_ne (form : Form) (side : Side) (uid : Option Uid) (cluster : EventCode)
    {ds : List Digit} (h : ds.length ≠ 18) :
    credentialOfDigits form side uid cluster ds = .malformed form side := by
  match ds with
  | [] => rfl
  | [d] => rfl
  | tens :: units :: rest =>
    have hrest : rest.length ≠ 16 := fun h' => h (by rw [List.length_cons, List.length_cons, h'])
    rw [credentialOfDigits, ticketOfDigits?_eq_none hrest]

/-- Eighteen digits carry their credential in either form. -/
theorem normalizeCode_of_digits (cluster : EventCode) (side : Side) {text : List Byte} {ds : List Digit}
    (h : text.map characterValue = ds.map (·.val)) :
    normalizeCode cluster side text = credentialOfDigits .code side none cluster ds := by
  rw [normalizeCode, digits?_eq_some.mpr h]

theorem normalizeCard_of_digits (cluster : EventCode) (side : Side) {uid : Uid} {payload : List Byte}
    {ds : List Digit} (huid : uidOk uid) (h : nibbles payload = ds.map (·.val)) :
    normalizeCard cluster side uid payload = credentialOfDigits .card side (some uid) cluster ds := by
  rw [normalizeCard, if_pos huid, digits?_eq_some.mpr h]

/-- The ASCII characters of digits have the digits' values. -/
theorem characterValue_ascii (ds : List Digit) :
    (ds.map fun d => byteOf (0x30 + d.val)).map characterValue = ds.map (·.val) := by
  rw [List.map_map]
  refine List.map_congr_left fun d _ => ?_
  have hbyte : (byteOf (0x30 + d.val)).toNat = 0x30 + d.val := by rw [byteOf_toNat]; omega
  rw [Function.comp_apply, characterValue, hbyte, if_neg (by omega), Nat.add_sub_cancel_left]

theorem nine_lt_characterValue {b : Byte} (h : b.toNat < 0x30 ∨ 0x39 < b.toNat) : 9 < characterValue b := by
  unfold characterValue
  split <;> omega

/-- A text that is not eighteen digit characters is MALFORMED (R6, R7). -/
theorem normalizeCode_malformed (cluster : EventCode) (side : Side) {text : List Byte}
    (h : text.length ≠ 18 ∨ ∃ b ∈ text, b.toNat < 0x30 ∨ 0x39 < b.toNat) :
    normalizeCode cluster side text = .malformed .code side := by
  cases hds : digits? (text.map characterValue) with
  | none => rw [normalizeCode, hds]
  | some ds =>
    obtain hlen | ⟨b, hb, hrange⟩ := h
    · have hvalues := digits?_eq_some.mp hds
      have hds18 : ds.length ≠ 18 := by
        have := congrArg List.length hvalues
        simp only [List.length_map] at this
        omega
      rw [normalizeCode_of_digits _ _ hvalues, credentialOfDigits_of_length_ne _ _ _ _ hds18]
    · rw [digits?_eq_none (List.mem_map_of_mem hb) (nine_lt_characterValue hrange)] at hds
      cases hds

/-- A card whose UID has a wrong length, or whose payload is not nine bytes of decimal nibbles, is MALFORMED
(R8, R9). -/
theorem normalizeCard_malformed (cluster : EventCode) (side : Side) {uid : Uid} {payload : List Byte}
    (h : ¬uidOk uid ∨ payload.length ≠ 9 ∨ ∃ b ∈ payload, 9 < b.toNat / 16 ∨ 9 < b.toNat % 16) :
    normalizeCard cluster side uid payload = .malformed .card side := by
  by_cases huid : uidOk uid
  · cases hds : digits? (nibbles payload) with
    | none => rw [normalizeCard, if_pos huid, hds]
    | some ds =>
      obtain hbad | hlen | hnibble := h
      · exact absurd huid hbad
      · have hvalues := digits?_eq_some.mp hds
        have hds18 : ds.length ≠ 18 := by
          have := congrArg List.length hvalues
          simp only [nibbles_length, List.length_map] at this
          omega
        rw [normalizeCard_of_digits _ _ huid hvalues, credentialOfDigits_of_length_ne _ _ _ _ hds18]
      · rw [digits?_nibbles_eq_none hnibble] at hds
        cases hds
  · exact if_neg huid

end Sys2Proof.Machine

open Sys2Proof Sys2Proof.Machine

/-- Settles O37: a well-formed text or payload has the values of its eighteen digits, and a malformed one has a value
that is no digit or another number of them. -/
theorem credentialsNormalize : Obligations.CredentialsNormalize := by
  refine ⟨fun cluster side tens units t uid => ?_, fun cluster side text h => normalizeCode_malformed cluster side h,
    fun cluster side uid payload h => normalizeCard_malformed cluster side h⟩
  intro outcome
  have houtcome : outcomeOf cluster ⟨tens, units⟩ t = outcome := by
    simp only [outcomeOf, EventCode.unset, ticketWellFormed_iff, outcome]
  refine ⟨?_, fun huid => ?_⟩
  · rw [normalizeCode_of_digits _ _ (characterValue_ascii _), credentialOfDigits_ticket, houtcome]
  · have hnibbles : nibbles (byteOf (16 * tens.val + units.val) :: ticketBytes t)
        = (tens :: units :: t.toList).map (·.val) :=
      (nibbles_eq_iff (by simp)).mpr rfl
    rw [normalizeCard_of_digits _ _ huid hnibbles, credentialOfDigits_ticket, houtcome]
end

section
/-! Requests with a faulty ticket number or gate id (R15, R32, R35, R37, R137, R148). -/

namespace Sys2Proof.Machine

/-- 1 to 63 alone are gate ids (R137, R176). -/
theorem gateIdOf?_eq_none {b : Byte} (h : b.toNat = 0 ∨ 63 < b.toNat) : gateIdOf? b = none :=
  dif_neg (by omega)

/-- A payload of the catalogue's length with a sound presence byte is its type's request (R200, R207). -/
theorem UplinkRequest.kind_of_catalogue {type : Byte} {p : List Byte} {k : UplinkKind} {n : Nat}
    (htype : catalogue type = some (k, n)) (hlen : p.length = n) (hpresence : badPresence k p = false) :
    UplinkRequest.kind ⟨type, p⟩ = k := by
  simp [UplinkRequest.kind, htype, hlen, hpresence]

/-- A service's refusal changes nothing but what ends the service (R199, R200). -/
theorem State.serveUplink_of_refused {s : State} {type : Byte} {p : List Byte} {k : UplinkKind}
    {serve : State → List Byte → State × Answer} {st : Status} (htakes : s.TakesUplink type p)
    (hkind : UplinkRequest.kind ⟨type, p⟩ = k) (hserve : serve s p = (s, .refuse st)) :
    s.serveUplink k serve = s.replied type p st [] := by
  obtain ⟨hitem, hslot⟩ := htakes
  rw [State.serveUplink_of_kind s k serve _ ((State.serving_eq_some s _).mpr hitem) hslot hkind, hserve]
  rfl

section
variable {p : List Byte} (hticket : ticketOfBytes? (bytesAt p 0 8) = none) (s : State)
include hticket

theorem loadTicketService_of_faulty : loadTicketService s p = (s, .refuse .badArg) := by
  rw [loadTicketService, hticket]

theorem dropTicketService_of_faulty : dropTicketService s p = (s, .refuse .badArg) := by
  rw [dropTicketService, hticket]

theorem queryTicketService_of_faulty : queryTicketService s p = (s, .refuse .badArg) := by
  rw [queryTicketService, hticket]

theorem revokeService_of_faulty : revokeService s p = (s, .refuse .badArg) := by
  rw [revokeService, hticket]

end

/-- Either faulty field refuses the notice (R137). -/
theorem noticeOf?_eq_none {p : List Byte}
    (h : ticketOfBytes? (bytesAt p 0 8) = none ∨ gateIdOf? (byteAt p 8) = none) : noticeOf? p = none := by
  unfold noticeOf?
  split
  · rename_i ht hg
    obtain h | h := h
    · rw [h] at ht; cases ht
    · rw [h] at hg; cases hg
  · rfl

theorem noticeService_of_faulty (found : State → Nat → Record → Notice → State × Answer) {p : List Byte}
    (h : noticeOf? p = none) (s : State) : noticeService found s p = (s, .refuse .badArg) := by
  rw [noticeService, h]

end Sys2Proof.Machine

open Sys2Proof Sys2Proof.Machine

/-- Settles O56: the six services test the ticket number first, and the two notices the gate id with it. -/
theorem faultyTicketFieldsAreRefused : Obligations.FaultyTicketFieldsAreRefused := by
  intro s type p c length htakes hlen hrow hpresence hfault
  have hticket (h : length ≠ 14) : ticketOfBytes? (bytesAt p 0 8) = none := by
    obtain hnibble | ⟨hnotice, -⟩ := hfault
    · exact ticketOfBytes?_eq_none hnibble
    · exact absurd hnotice h
  have hnotice : noticeOf? p = none :=
    noticeOf?_eq_none (hfault.imp ticketOfBytes?_eq_none fun h => gateIdOf?_eq_none h.2)
  have answered {k : UplinkKind} {serve : State → List Byte → State × Answer}
      (htype : catalogue type = some (k, length)) (hbits : badPresence k p = false)
      (hserve : serve s p = (s, .refuse .badArg)) :
      (.next (s.serveUplink k serve) : Host.Outcome State Fault Refusal) = .next (s.replied type p .badArg []) :=
    congrArg _ (State.serveUplink_of_refused htakes (UplinkRequest.kind_of_catalogue htype hlen hbits) hserve)
  simp only [List.mem_cons, List.not_mem_nil, or_false, Prod.mk.injEq] at hrow
  obtain ⟨rfl, rfl, rfl⟩ | ⟨rfl, rfl, rfl⟩ | ⟨rfl, rfl, rfl⟩ | ⟨rfl, rfl, rfl⟩ | ⟨rfl, rfl, rfl⟩ | ⟨rfl, rfl, rfl⟩ :=
    hrow
  · have hbits : badPresence .loadTicket p = false := decide_eq_false (Nat.not_le.mpr (hpresence rfl))
    exact answered rfl hbits (loadTicketService_of_faulty (hticket (by decide)) s)
  · exact answered rfl rfl (dropTicketService_of_faulty (hticket (by decide)) s)
  · exact answered rfl rfl (queryTicketService_of_faulty (hticket (by decide)) s)
  · exact answered rfl rfl (noticeService_of_faulty _ hnotice s)
  · exact answered rfl rfl (noticeService_of_faulty _ hnotice s)
  · exact answered rfl rfl (revokeService_of_faulty (hticket (by decide)) s)
end

section
/-! The layouts of the replies and of the blocks in them, and the fields that read back (R193, R200, R207 to R211). -/

namespace Sys2Proof.Machine

/-! ### Lengths -/

@[simp] theorem bytes16_length (n : Nat) : (bytes16 n).length = 2 := rfl

@[simp] theorem bytes32_length (v : BitVec 32) : (bytes32 v).length = 4 := rfl

@[simp] theorem timeBytes_length (t : VenueTime) : (timeBytes t).length = 5 := rfl

@[simp] theorem Source.bytes_length (o : Source) : o.bytes.length = 2 := by cases o <;> rfl

@[simp] theorem passageBytes_length (p : Option Passage) : (passageBytes p).length = 7 := by
  cases p <;> simp [passageBytes]

theorem uidBytes_length {b : Option Uid} (h : ∀ u ∈ b, uidOk u) : (uidBytes b).length = 11 := by
  cases b with
  | none => rfl
  | some u =>
    have hu : uidOk u := h u rfl
    simp only [uidBytes, List.length_cons, List.length_append, List.length_replicate]
    omega

@[simp] theorem optionalTicketBytes_length (t : Option Ticket) : (optionalTicketBytes t).length = 8 := by
  cases t <;> simp [optionalTicketBytes]

@[simp] theorem recordFieldsBytes_length (f : Option RecordFields) : (recordFieldsBytes f).length = 12 := by
  cases f <;> simp [recordFieldsBytes]

/-! ### Reading a field

A payload's field at `k` is read off the bytes with which the payload's rest from `k` begins. -/

section
variable {p : List Byte} {k : Nat} {rest : List Byte}

theorem byteAt_add (p : List Byte) (k i : Nat) : byteAt p (k + i) = byteAt (p.drop k) i := by
  simp [byteAt]

theorem byteAt_of_drop {b : Byte} (h : p.drop k = b :: rest) : byteAt p k = b := by
  rw [← Nat.add_zero k, byteAt_add, h]
  rfl

/-- Behind a field's bytes stands the rest of the payload. -/
theorem drop_of_drop {q : List Byte} {n : Nat} (h : p.drop k = q ++ rest) (hn : q.length = n) :
    p.drop (k + n) = rest := by
  rw [← List.drop_drop, h, List.drop_left' hn]

theorem bytesAt_of_drop {q : List Byte} (h : p.drop k = q ++ rest) : bytesAt p k q.length = q := by
  rw [bytesAt, h, List.take_left]

theorem field16_of_drop {n : Nat} (h : p.drop k = bytes16 n ++ rest) : field16 p k = BitVec.ofNat 16 n := by
  have hhigh : byteAt p k = byteOf (n / 256) := byteAt_of_drop h
  have hlow : byteAt p (k + 1) = byteOf n := by rw [byteAt_add, h]; rfl
  apply BitVec.eq_of_toNat_eq
  simp only [field16, hhigh, hlow, byteOf_toNat, BitVec.toNat_ofNat]
  omega

theorem field32_of_drop {v : BitVec 32} (h : p.drop k = bytes32 v ++ rest) : field32 p k = v := by
  have hhigh := field16_of_drop (h.trans (List.append_assoc _ _ _))
  have hlow : field16 p (k + 2) = BitVec.ofNat 16 (v.toNat % 65536) := by
    refine field16_of_drop (rest := rest) ?_
    rw [← List.drop_drop, h]
    rfl
  have hv := v.isLt
  apply BitVec.eq_of_toNat_eq
  simp only [field32, hhigh, hlow, BitVec.toNat_ofNat]
  omega

theorem timeAt_of_drop {t : VenueTime} (h : p.drop k = timeBytes t ++ rest) : timeAt p k = t := by
  have hseconds := field32_of_drop (h.trans (List.append_assoc _ _ _))
  have hfraction : byteAt p (k + 4) = t.fraction := by rw [byteAt_add, h]; rfl
  rw [timeAt, hseconds, hfraction]

end

/-! ### Numbers in range -/

theorem byteOf_inj {m n : Nat} (hm : m < 256) (hn : n < 256) : byteOf m = byteOf n ↔ m = n := by
  rw [← BitVec.toNat_inj, byteOf_toNat, byteOf_toNat]
  omega

theorem laneOf?_byteOf (n : Lane) : laneOf? (byteOf n.val) = some n := by
  have hn : (byteOf n.val).toNat = n.val := by rw [byteOf_toNat]; omega
  simp [laneOf?, hn]

theorem classOf?_byteOf (c : ClassNo) : classOf? (byteOf c.val) = some c := by
  have hc : (byteOf c.val).toNat = c.val := by rw [byteOf_toNat]; omega
  simp [classOf?, hc]

theorem upTo15?_byteOf (e : Fin 16) : upTo15? (byteOf e.val) = some e := by
  have he : (byteOf e.val).toNat = e.val := by rw [byteOf_toNat]; omega
  simp [upTo15?, he]

theorem gateIdOf?_byteOf {g : GateId} (h : g ≠ 0) : gateIdOf? (byteOf g.val) = some g := by
  have hg : (byteOf g.val).toNat = g.val := by rw [byteOf_toNat]; omega
  have hpos : 0 < g.val := Nat.pos_of_ne_zero fun h0 => h (Fin.ext h0)
  simp [gateIdOf?, hg, hpos]

/-- The bits of a byte made of four flags, and its bound. -/
theorem bitAt_flags {a b c d : Bool} {f : Byte}
    (h : f = byteOf (bitValue a + 2 * bitValue b + 4 * bitValue c + 8 * bitValue d)) :
    bitAt f 0 = a ∧ bitAt f 1 = b ∧ bitAt f 2 = c ∧ bitAt f 3 = d ∧ f.toNat < 16 := by
  subst h
  revert a b c d
  decide

/-! ### The ticket record block (R208) -/

theorem Record.Ok.block_length {r : Record} (h : r.Ok) : r.block.length = 30 := by
  obtain ⟨-, -, hbinding, -⟩ := h
  simp [Record.block, uidBytes_length hbinding]

/-- Bits 0 to 3 of a record block's presence byte. -/
theorem Record.presence_bits (r : Record) :
    bitAt r.presence 0 = r.lastPassage.isSome ∧ bitAt r.presence 1 = r.binding.isSome ∧
      bitAt r.presence 2 = r.pendingReport ∧ bitAt r.presence 3 = r.isHeld ∧ r.presence.toNat < 16 :=
  bitAt_flags rfl

theorem Record.isHeld_iff (r : Record) : r.isHeld = true ↔ ∃ h, r.state = .held h := by
  simp only [Record.isHeld, Option.isSome_iff_exists, Record.hold?_eq_some]

/-- Past the ticket number stand the four bytes of class, state, entries used and presence, and the two fields. -/
theorem Record.block_drop (r : Record) (k : Nat) :
    r.block.drop (8 + k)
      = (byteOf r.cls.val :: r.state.name.code :: byteOf r.entries.val :: r.presence ::
          (passageBytes r.lastPassage ++ uidBytes r.binding)).drop k := by
  rw [← List.drop_drop, Record.block, List.append_assoc, List.append_assoc,
    List.drop_left' (ticketBytes_length r.ticket)]
  rfl

theorem Record.block_cls (r : Record) : byteAt r.block 8 = byteOf r.cls.val := byteAt_of_drop (r.block_drop 0)

theorem Record.block_state (r : Record) : byteAt r.block 9 = r.state.name.code := byteAt_of_drop (r.block_drop 1)

theorem Record.block_entries (r : Record) : byteAt r.block 10 = byteOf r.entries.val :=
  byteAt_of_drop (r.block_drop 2)

theorem Record.block_presence (r : Record) : byteAt r.block 11 = r.presence := byteAt_of_drop (r.block_drop 3)

theorem Record.block_passage (r : Record) :
    r.block.drop 12 = passageBytes r.lastPassage ++ uidBytes r.binding := r.block_drop 4

theorem Record.block_binding (r : Record) : r.block.drop 19 = uidBytes r.binding :=
  drop_of_drop r.block_passage (passageBytes_length _)

/-- A last passage's source reads back from its two bytes, unless it is the unset gate id (R22, R208). -/
theorem sourceOf?_of_drop {o : Source} {p rest : List Byte} {k : Nat} (h : p.drop k = o.bytes ++ rest)
    (ho : o ≠ .gate 0) : sourceOf? (byteAt p k) (byteAt p (k + 1)) = some o := by
  have hnumber : byteAt p (k + 1) = byteAt (o.bytes ++ rest) 1 := by rw [byteAt_add, h]
  cases o with
  | lane n =>
    rw [byteAt_of_drop h, hnumber]
    exact congrArg (Option.map Source.lane) (laneOf?_byteOf n)
  | gate g =>
    rw [byteAt_of_drop h, hnumber]
    exact congrArg (Option.map Source.gate) (gateIdOf?_byteOf fun hg => ho (hg ▸ rfl))

/-- The last passage of a record reads back from its block (R32, R208). -/
theorem passageOf?_block {r : Record} (h : ∀ lp ∈ r.lastPassage, lp.source ≠ .gate 0) :
    passageOf? r.block = some r.lastPassage := by
  obtain ⟨hbit, -⟩ := r.presence_bits
  have hdrop := r.block_passage
  rw [passageOf?, r.block_presence, hbit]
  cases hlp : r.lastPassage with
  | none => rfl
  | some lp =>
    rw [hlp, passageBytes, List.append_assoc] at hdrop
    have hsource := sourceOf?_of_drop (drop_of_drop hdrop (timeBytes_length _)) (h lp hlp)
    rw [timeAt_of_drop hdrop, hsource]
    rfl

/-- The card binding of a record reads back from its block (R32, R208). -/
theorem bindingOf?_block {r : Record} (h : ∀ u ∈ r.binding, uidOk u) : bindingOf? r.block = some r.binding := by
  obtain ⟨-, hbit, -⟩ := r.presence_bits
  have hdrop := r.block_binding
  rw [bindingOf?, r.block_presence, hbit]
  cases hb : r.binding with
  | none => rfl
  | some u =>
    rw [hb] at hdrop
    have hu : uidOk u := h u hb
    have hlength : (byteAt r.block 19).toNat = u.length := by
      rw [byteAt_of_drop hdrop, byteOf_toNat]
      omega
    have hbytes : bytesAt r.block 20 u.length = u :=
      bytesAt_of_drop (drop_of_drop (q := [byteOf u.length]) hdrop rfl)
    simp [hlength, hu, hbytes]

/-- A state that LOAD_TICKET may carry, every one but HELD, reads back from its code (R32, R208). -/
theorem loadableState?_code {st : RecordState} (h : ∀ x, st ≠ .held x) : loadableState? st.name.code = some st := by
  cases st with
  | held x => exact absurd rfl (h x)
  | _ => rfl

/-- A consistent record without a hold passes the record tests of R32 on state, entries used and last passage. -/
theorem Record.Ok.loadable {r : Record} (h : r.Ok) (hhold : r.hold? = none) :
    entriesConsistent r.state r.entries = true ∧ ¬(r.state = .valid ∧ r.lastPassage ≠ none) := by
  obtain ⟨hentries, -⟩ := h
  cases hst : r.state with
  | held x => simp [(r.hold?_eq_some x).mpr hst] at hhold
  | valid =>
    simp only [Record.reportedState, hst, RecordState.name, entriesAgree] at hentries
    simp [entriesConsistent, hentries]
  | revoked => simp [entriesConsistent]
  | _ =>
    simp only [Record.reportedState, hst, RecordState.name, entriesAgree] at hentries
    simp [entriesConsistent, hentries]

/-- The block of a consistent record without a hold or a report owed reads back as it (R32, R208). -/
theorem recordOf?_block {r : Record} (h : r.Ok) (hhold : r.hold? = none) (hpending : r.pendingReport = false) :
    recordOf? r.ticket r.block = some r := by
  have hstate : loadableState? r.state.name.code = some r.state :=
    loadableState?_code fun x hx => by simp [(r.hold?_eq_some x).mpr hx] at hhold
  have htests := h.loadable hhold
  obtain ⟨-, -, hbinding, hpassage⟩ := h
  rw [recordOf?, r.block_cls, r.block_state, r.block_entries, classOf?_byteOf, hstate, upTo15?_byteOf,
    passageOf?_block hpassage, bindingOf?_block hbinding]
  simp only [if_pos htests, ← hpending]

theorem badPresence_block (r : Record) : badPresence .loadTicket r.block = false := by
  obtain ⟨-, -, -, -, hbound⟩ := r.presence_bits
  exact decide_eq_false (by rw [r.block_presence]; omega)

/-! ### The class record (R210) -/

theorem classPayload_length (c : ClassNo) (r : ClassRecord) : (classPayload c r).length = 15 := rfl

/-- A class record with a cooldown in range reads back from its payload (R43, R210). -/
theorem classRecordOf?_classPayload (c : ClassNo) {r : ClassRecord} (h : r.cooldown ≤ 3600) :
    classRecordOf? (classPayload c r) = some (c, r) := by
  have hopen : field32 (classPayload c r) 1 = r.windowOpen := field32_of_drop rfl
  have hclose : field32 (classPayload c r) 5 = r.windowClose := field32_of_drop rfl
  have hcooldown : min (field16 (classPayload c r) 10).toNat Config.maxCooldown = r.cooldown := by
    rw [field16_of_drop (n := r.cooldown) rfl, BitVec.toNat_ofNat, Config.maxCooldown]
    omega
  have hmask : (byteOf r.laneMask.toNat).toNat = r.laneMask.toNat := by rw [byteOf_toNat]; omega
  have hlanes : (byteOf r.laneMask.toNat).setWidth 6 = r.laneMask := by
    apply BitVec.eq_of_toNat_eq
    rw [BitVec.toNat_setWidth, hmask]
    omega
  obtain ⟨hwindowless, hcardOnly, hbind, hofflineOk, hflags⟩ :=
    bitAt_flags (f := byteAt (classPayload c r) 14) (a := r.windowless) (b := r.cardOnly) (c := r.bind)
      (d := r.offlineOk) rfl
  have hrange : (byteOf r.laneMask.toNat).toNat < 64 := by omega
  have hc : byteAt (classPayload c r) 0 = byteOf c.val := rfl
  have hlimit : byteAt (classPayload c r) 9 = byteOf r.limit.val := rfl
  have hzone : byteAt (classPayload c r) 12 = byteOf r.zone.val := rfl
  have hmaskByte : byteAt (classPayload c r) 13 = byteOf r.laneMask.toNat := rfl
  simp only [classRecordOf?, hc, hlimit, hzone, hmaskByte, classOf?_byteOf, upTo15?_byteOf, hrange,
    hflags, and_self, if_true, hopen, hclose, hcooldown, hlanes, hwindowless, hcardOnly, hbind, hofflineOk]

/-! ### Journal entries (R209) -/

theorem Entry.bytes_length (e : Entry) : e.bytes.length = 22 := by simp [Entry.bytes]

theorem bytes16_inj {m n : Nat} (hm : m < 65536) (hn : n < 65536) (h : bytes16 m = bytes16 n) : m = n := by
  obtain ⟨hhigh, hlow⟩ := List.cons.inj h
  rw [← value_bytes16 hm, ← value_bytes16 hn, hhigh, (List.cons.inj hlow).1]

theorem bytes32_injective : Function.Injective bytes32 := by
  intro v w h
  have hread (x : BitVec 32) : field32 (bytes32 x) 0 = x := field32_of_drop (List.append_nil _).symm
  rw [← hread v, h, hread w]

theorem timeBytes_injective : Function.Injective timeBytes := by
  intro t u h
  have hread (x : VenueTime) : timeAt (timeBytes x) 0 = x := timeAt_of_drop (List.append_nil _).symm
  rw [← hread t, h, hread u]

theorem ticketBytes_injective : Function.Injective ticketBytes := by
  intro t u h
  rw [← Option.some_inj, ← ticketOfBytes?_ticketBytes t, h, ticketOfBytes?_ticketBytes]

theorem Kind.code_injective : Function.Injective Kind.code := by
  intro a b
  cases a <;> cases b <;> decide

theorem StateName.code_injective : Function.Injective StateName.code := by
  intro a b
  cases a <;> cases b <;> decide

theorem Source.bytes_injective : Function.Injective Source.bytes := by
  intro a b h
  cases a <;> cases b
  case lane.lane m n =>
    obtain ⟨-, hnumber⟩ := List.cons.inj h
    have hval := (byteOf_inj (by omega) (by omega)).mp (List.cons.inj hnumber).1
    rw [Fin.ext hval]
  case gate.gate f g =>
    obtain ⟨-, hnumber⟩ := List.cons.inj h
    have hval := (byteOf_inj (by omega) (by omega)).mp (List.cons.inj hnumber).1
    rw [Fin.ext hval]
  case lane.gate => exact absurd (List.cons.inj h).1 (by decide)
  case gate.lane => exact absurd (List.cons.inj h).1 (by decide)

theorem recordFieldsBytes_some_inj {f g : RecordFields}
    (h : recordFieldsBytes (some f) = recordFieldsBytes (some g)) : f = g := by
  obtain ⟨ticket, cls, zone, name, entries⟩ := f
  obtain ⟨ticket', cls', zone', name', entries'⟩ := g
  obtain ⟨hticket, hbytes⟩ := List.append_inj h (by simp)
  simp only [List.cons.injEq, and_true] at hbytes
  obtain ⟨hcls, hzone, hname, hentries⟩ := hbytes
  rw [byteOf_inj (by omega) (by omega), Fin.val_inj] at hcls hzone hentries
  obtain rfl : ticket = ticket' := ticketBytes_injective hticket
  obtain rfl : name = name' := StateName.code_injective hname
  rw [hcls, hzone, hentries]

/-- Where both or neither of two entries carry record fields, their fields' bytes tell the fields apart. -/
theorem recordFieldsBytes_inj {f g : Option RecordFields} (hsome : f.isSome = g.isSome)
    (h : recordFieldsBytes f = recordFieldsBytes g) : f = g := by
  match f, g with
  | none, none => rfl
  | some f, some g => rw [recordFieldsBytes_some_inj h]

/-- Two entries with the same bytes are the same: the kind says whether there are record fields (R154, R209). -/
theorem Entry.bytes_inj {e f : Entry} (he : e.Ok) (hf : f.Ok) (h : e.bytes = f.bytes) : e = f := by
  obtain ⟨hfront, hfieldBytes⟩ := List.append_inj h (by simp)
  obtain ⟨hfront, htime⟩ := List.append_inj hfront (by simp)
  obtain ⟨hfront, hsource⟩ := List.append_inj hfront (by simp)
  obtain ⟨hsequence, hcode⟩ := List.append_inj hfront (by simp)
  have hkind : e.kind = f.kind := Kind.code_injective (List.cons.inj hcode).1
  have hsome : e.fields.isSome = f.fields.isSome := by
    obtain ⟨hbearing, -⟩ := he
    obtain ⟨hbearing', -⟩ := hf
    rw [hbearing, hbearing', hkind]
  have hfields : e.fields = f.fields := recordFieldsBytes_inj hsome hfieldBytes
  have hnumber : e.sequence = f.sequence :=
    BitVec.eq_of_toNat_eq (bytes16_inj e.sequence.isLt f.sequence.isLt hsequence)
  cases e
  cases f
  cases hnumber
  cases hkind
  cases hfields
  cases Source.bytes_injective hsource
  cases timeBytes_injective htime
  rfl

/-! ### Replies (R193, R200, R211) -/

theorem UplinkReply.sum8_frame (r : UplinkReply) : sum8 r.frame = 0 := sum8_append_checkByte _

theorem UplinkReply.frame_eq (r : UplinkReply) :
    r.frame = 0xA5 :: bytes16 (r.payload.length + 1) ++ [r.type, r.status.code] ++ r.payload
      ++ [checkByte (0xA5 :: bytes16 (r.payload.length + 1) ++ [r.type, r.status.code] ++ r.payload)] := rfl

theorem LaneReply.sum8_frame (r : LaneReply) : sum8 r.frame = 0 := sum8_append_checkByte _

theorem StatusBlock.bytes_length (b : StatusBlock) : b.bytes.length = 23 := by simp [StatusBlock.bytes]

/-- The lane status block by its fields: the hold and the last outcome take nine bytes each. -/
theorem StatusBlock.bytes_eq_fields (b : StatusBlock) :
    b.bytes = [b.laneState.code]
      ++ ((b.hold.map fun h => h.1.code).getD 0x00 :: optionalTicketBytes (b.hold.map Prod.snd))
      ++ ((b.lastOutcome.map fun o => o.howEnded.code).getD 0x00 :: optionalTicketBytes (b.lastOutcome.map (·.ticket)))
      ++ [byteOf b.forcedSincePoll, b.gate.code, b.link.code, byteOfBool b.overrun] := by
  simp [StatusBlock.bytes]

/-- A lane link reply's length byte counts its content and the check byte (R193). -/
theorem LaneReply.frame_eq (r : LaneReply) {n : Nat} (h : r.content.length + 1 = n) :
    r.frame = byteOf n :: r.content ++ [checkByte (byteOf n :: r.content)] := by
  rw [← h]
  rfl

theorem LaneReply.content_verdict_length (v : VerdictReply) : (LaneReply.verdict v).content.length = 37 := by
  simp [LaneReply.content, v.block.bytes_length]

/-- A verdict reply by its fields: length, code and presence byte, ticket number, class and zone, figures, lane status
block, check byte. -/
theorem LaneReply.frame_verdict (v : VerdictReply) :
    (LaneReply.verdict v).frame = [38, v.verdict.code, v.presence]
      ++ optionalTicketBytes v.ticket
      ++ [byteOf ((v.classZone.map fun c => c.1.val).getD 0), byteOf ((v.classZone.map fun c => c.2.val).getD 0)]
      ++ [byteOf ((v.figures.map Prod.fst).getD 0), byteOf ((v.figures.map Prod.snd).getD 0)]
      ++ v.block.bytes ++ [checkByte (38 :: (LaneReply.verdict v).content)] := by
  have hlength : byteOf 38 = 38 := rfl
  rw [LaneReply.frame_eq _ (congrArg (· + 1) (LaneReply.content_verdict_length v)), hlength]
  simp [LaneReply.content]

theorem VerdictReply.presence_bits (v : VerdictReply) :
    bitAt v.presence 0 = v.repeatMarker ∧ bitAt v.presence 1 = v.ticket.isSome ∧
      bitAt v.presence 2 = v.classZone.isSome ∧ bitAt v.presence 3 = v.figures.isSome ∧ v.presence.toNat < 16 :=
  bitAt_flags rfl

end Sys2Proof.Machine

open Sys2Proof Sys2Proof.Machine

/-- Settles O49: every field reads back from the bytes it stands in, and each layout is compared piece by piece, a case
for each code. -/
theorem layoutsReadBack : Obligations.LayoutsReadBack := by
  refine ⟨fun t => ⟨ticketBytes_length t, ticketOfBytes?_ticketBytes t⟩,
    fun b t _ h => (ticketOfBytes?_eq_some.mp h).symm,
    fun r hok hhold hpending =>
      ⟨hok.block_length, badPresence_block r, recordOf?_block hok hhold hpending⟩,
    fun r => ⟨fun hok => hok.block_length, r.presence, ?_⟩,
    fun c r h => ⟨classPayload_length c r, classRecordOf?_classPayload c h⟩,
    fun e => ⟨e.bytes_length, ?_⟩,
    fun e f he hf h => Entry.bytes_inj he hf h,
    fun r => ⟨r.sum8_frame, ?_⟩,
    fun b => ⟨b.bytes_length, ?_⟩,
    fun r => ⟨r.sum8_frame, ?_⟩⟩
  · obtain ⟨h0, h1, h2, h3, hbound⟩ := r.presence_bits
    refine ⟨h0, h1, h2, by rw [h3, r.isHeld_iff], hbound, ?_⟩
    refine congrArg₂ _ (congrArg₂ _ (congrArg₂ _ rfl ?_) ?_) ?_
    · cases r.state <;> rfl
    · obtain _ | ⟨time, _ | _⟩ := r.lastPassage <;> rfl
    · cases r.binding <;> rfl
  · rw [Entry.bytes, timeBytes, ← List.append_assoc]
    refine congrArg₂ _ (congrArg₂ _ (congrArg₂ _ (congrArg₂ _ (congrArg₂ _ rfl ?_) ?_) rfl) rfl) ?_
    · cases e.kind <;> rfl
    · cases e.source <;> rfl
    · obtain _ | ⟨t, c, z, _ | _, n⟩ := e.fields <;> rfl
  · refine ⟨_, r.frame_eq.trans (congrArg₂ _ (congrArg₂ _ (congrArg₂ _ rfl ?_) rfl) rfl)⟩
    cases r.status <;> rfl
  · rw [b.bytes_eq_fields]
    refine congrArg₂ _ (congrArg₂ _ (congrArg₂ _ ?_ ?_) ?_) ?_
    · cases b.laneState <;> rfl
    · obtain _ | ⟨_ | _, t⟩ := b.hold <;> rfl
    · obtain _ | ⟨_ | _, t⟩ := b.lastOutcome <;> rfl
    · cases b.gate <;> cases b.link <;> rfl
  · cases r with
    | badFrame o => exact ⟨_, rfl⟩
    | poll b => exact ⟨_, LaneReply.frame_eq (.poll b) (congrArg (· + 2) b.bytes_length)⟩
    | cancel done b => exact ⟨_, LaneReply.frame_eq (.cancel done b) (congrArg (· + 2) b.bytes_length)⟩
    | verdict v =>
      obtain ⟨h0, h1, h2, h3, hbound⟩ := v.presence_bits
      refine ⟨_, v.presence, h0, h1, h2, h3, hbound, (LaneReply.frame_verdict v).trans
        (congrArg₂ _ (congrArg₂ _ (congrArg₂ _ (congrArg₂ _ (congrArg₂ _ ?_ ?_) ?_) ?_) rfl) rfl)⟩
      · cases v.verdict <;> rfl
      · cases v.ticket <;> rfl
      · cases v.classZone <;> rfl
      · cases v.figures <;> rfl
end

section
/-! What a command can do, said once: the elementary effects that every command but a power-on reset and the three
requests that load, drop or clear tickets is a chain of. What every step keeps is proved over these effects. -/

namespace Sys2Proof.Machine

/-! ### What becomes of a record -/

/-- What the end of the hold `h` makes of a record (R98 to R101). -/
inductive Record.Ended (r : Record) (h : Hold) : Record → Prop
  | withoutPassage : r.Ended h (r.afterNonCommit h)
  | entry (c : ClassRecord) (capture : VenueTime) (hdirection : h.direction = .IN) :
      r.Ended h (r.afterEntryCommit h c capture)
  | exit (c : ClassRecord) (capture : VenueTime) (hdirection : h.direction = .OUT) :
      r.Ended h (r.afterExitCommit h c capture)

/-- What a notice from another gate or a revocation makes of a record (R140 to R149). -/
inductive Record.Noted (r : Record) : Record → Prop
  | admitted (x : Notice) (hgate : x.gate ≠ 0) (hstate : r.state = .valid ∨ r.state = .outside) :
      r.Noted (r.admittedElsewhere x)
  | exited (c : ClassRecord) (x : Notice) (hgate : x.gate ≠ 0) (hstate : r.state = .inside) :
      r.Noted (r.exitedElsewhere c x)
  | revoked (hhold : r.hold? = none) : r.Noted { r with state := .revoked }
  | marked (h : Hold) (m : RemoteMark) (hgate : m.gate ≠ 0) (hstate : r.state = .held h)
      (hdirection : h.direction = .IN) : r.Noted { r with state := .held { h with remoteMark := some m } }
  | revokeMarked (h : Hold) (hstate : r.state = .held h) :
      r.Noted { r with state := .held { h with revokeMark := true } }

/-- What LOAD_TICKET may put into a slot (R32). -/
structure Record.Loadable (r : Record) : Prop where
  ok : r.Ok
  hold : r.hold? = none
  pendingReport : r.pendingReport = false
  ticket : ticketWellFormed r.ticket = true

/-! ### What becomes of the zones -/

/-- The reserved counts are the same. -/
def ReservedAlike (zs ws : Vector ZoneRecord 16) : Prop :=
  ∀ z : ZoneNo, (ws.get z).reserved = (zs.get z).reserved

/-- The place that a hold reserved is given up (R48). -/
def ReservedReleased (h : Hold) (zs ws : Vector ZoneRecord 16) : Prop :=
  ∀ z : ZoneNo, (ws.get z).reserved = (zs.get z).reserved - if h.reservedZone = some z then 1 else 0

/-- The place that a new hold reserves is taken (R48). -/
def ReservedTaken (h : Hold) (zs ws : Vector ZoneRecord 16) : Prop :=
  ∀ z : ZoneNo, (ws.get z).reserved = (zs.get z).reserved + if h.reservedZone = some z then 1 else 0

theorem ReservedAlike.refl (zs : Vector ZoneRecord 16) : ReservedAlike zs zs := fun _ => rfl

/-- A record written into its slot, and the zones with it. -/
def State.rewrite (s : State) (slot : Nat) (q : Record) (zs : Vector ZoneRecord 16) : State :=
  { s with table := s.table.set slot q, zones := zs }

/-! ### The elementary effects -/

/-- The record, the zones and the journal at the end of the hold `h` of the record `r` in a slot (R97 to R101). -/
inductive State.HoldEnds (s : State) (slot : Nat) (r : Record) (h : Hold) : State → Prop
  | silent (q : Record) (zs : Vector ZoneRecord 16) (hq : r.Ended h q)
      (hzones : h.Ok → ReservedReleased h s.zones zs) : s.HoldEnds slot r h (s.rewrite slot q zs)
  | reported (q : Record) (zs : Vector ZoneRecord 16) (kind : Kind) (source : Source) (time : VenueTime)
      (zone : ZoneNo) (hq : r.Ended h q) (hzones : h.Ok → ReservedReleased h s.zones zs)
      (hkind : kind.recordBearing = true) :
      s.HoldEnds slot r h ((s.rewrite slot q zs).report slot q kind source time zone)

/-- What the service of a lane's request does before its reply is placed (R82, R83, R87, R88). -/
inductive State.LaneWork (s : State) (n : Lane) : State → Prop
  | nothing : s.LaneWork n s
  | refuse : s.LaneWork n (s.countRefusal n)
  | poll : s.LaneWork n (s.clearPolled n)
  | cancel (slot : Nat) (r : Record) (h : Hold) (u : State) (hheld : s.heldAt n = some (slot, r, h))
      (hstate : (s.lanes.get n).state = .armed)
      (hends : (s.setLane n (s.lanes.get n).relock).HoldEnds slot r h u) :
      s.LaneWork n (u.closeHold n .cancelled r.ticket)
  | grant (cred : Credential) (slot : Nat) (r : Record) (huid : ∀ u ∈ cred.uid, uidOk u)
      (hdecision : s.decision n cred = .grant slot r) : s.LaneWork n (s.grantHold n cred slot r)

/-- What the service of an uplink request does before its reply is placed, for every request but LOAD_TICKET,
DROP_TICKET and CLEAR_TABLE. -/
inductive State.UplinkWork (s : State) : State → Prop
  | nothing : s.UplinkWork s
  | note (slot : Nat) (r q : Record) (zs : Vector ZoneRecord 16) (hmem : (slot, r) ∈ s.table) (hq : r.Noted q)
      (hzones : ReservedAlike s.zones zs) : s.UplinkWork (s.rewrite slot q zs)
  | noteHeld (slot : Nat) (r q : Record) (h : Hold) (zs : Vector ZoneRecord 16) (hmem : (slot, r) ∈ s.table)
      (hq : r.Noted q) (hhold : r.state = .held h) (hzones : ReservedAlike s.zones zs) :
      s.UplinkWork ((s.rewrite slot q zs).sendWithdraw h.lane)
  | double (slot : Nat) (r : Record) (source : Source) (time : VenueTime) (zone : ZoneNo) :
      s.UplinkWork (s.report slot r .double source time zone)
  | doubleHeld (slot : Nat) (r : Record) (h : Hold) (zs : Vector ZoneRecord 16) (source : Source)
      (time : VenueTime) (zone : ZoneNo) (hmem : (slot, r) ∈ s.table) (hhold : r.state = .held h)
      (hzones : ReservedAlike s.zones zs) :
      s.UplinkWork (({ s with zones := zs }.report slot r .double source time zone).sendWithdraw h.lane)
  | setClass (c : ClassNo) (r : ClassRecord) (hcooldown : r.cooldown ≤ Config.maxCooldown) :
      s.UplinkWork { s with classes := s.classes.set c r }
  | setZone (zs : Vector ZoneRecord 16) (hzones : ReservedAlike s.zones zs) : s.UplinkWork { s with zones := zs }
  | setClock (c : Clock) : s.UplinkWork { s with clock := c }
  | takeJournal (k : Nat) : s.UplinkWork (State.driveAttn { s with journal := s.journal.drop k })
  | setWatermark (w : Nat) (hlow : 1 ≤ w) (hhigh : w ≤ Config.journalCapacity) :
      s.UplinkWork (State.driveAttn { s with watermark := w })
  | setGate (g : GateState) (hold : s.gc.gate ≠ .evac) (hnew : g ≠ .evac) :
      s.UplinkWork { s with gc := { s.gc with gate := g } }
  | setIdentity (g : GateId) (e : EventCode) :
      s.UplinkWork { s with gc := { s.gc with gateId := g, eventCode := e } }
  | setLinkTimeout (k : Nat) (hlow : Config.minLinkTimeout ≤ k) (hhigh : k ≤ 255) :
      s.UplinkWork { s with gc := { s.gc with linkTimeout := k } }
  | setLane (c : LaneChange) (hwindow : ∀ w ∈ c.window, Config.minWindow ≤ w ∧ w ≤ Config.maxWindow)
      (hthreshold : ∀ k ∈ c.threshold, Config.minThreshold ≤ k ∧ k ≤ Config.maxThreshold)
      (hrole : (s.contexts.get c.lane).holdRef ≠ none →
        c.role.getD (s.lanes.get c.lane).role = (s.lanes.get c.lane).role) :
      s.UplinkWork (s.setLane c.lane
        ((((s.lanes.get c.lane).changeRole c.role).writePreload c).settlePreload
          (s.contexts.get c.lane).holdRef.isSome))
  | clearTallies : s.UplinkWork (s.mapLanes fun lu => { lu with tallies := .zero })
  | restart : s.UplinkWork { s with restarting := true }

/-- What LOAD_TICKET does before its reply is placed (R33, R34). -/
inductive State.LoadWork (s : State) : State → Prop
  | nothing : s.LoadWork s
  | insert (r : Record) (hr : r.Loadable) (hnew : s.table.lookup r.ticket = none)
      (hroom : s.table.length < Config.tableCapacity) :
      s.LoadWork { s with table := s.table.insert s.table.lowestFree r }
  | replace (slot : Nat) (old r : Record) (hr : r.Loadable) (hfound : s.table.lookup r.ticket = some (slot, old))
      (hhold : old.hold? = none) (hpending : old.pendingReport = false) : s.LoadWork (s.setRecord slot r)

/-- What LOAD_TICKET, DROP_TICKET and CLEAR_TABLE do before their reply is placed (R33 to R36). -/
inductive State.TableWork (s : State) : State → Prop
  | nothing : s.TableWork s
  | load (u : State) (hwork : s.LoadWork u) : s.TableWork u
  | drop (slot : Nat) (old : Record) (hfound : s.table.lookup old.ticket = some (slot, old))
      (hhold : old.hold? = none) (hpending : old.pendingReport = false) :
      s.TableWork { s with table := s.table.erase slot }
  | clear (hhold : ∀ e ∈ s.table, e.2.hold? = none) :
      s.TableWork (State.driveAttn { s with table := [], pendingCount := 0 })

/-- The request in service is answered, after its work, with a status that the receiver alone does not give. -/
inductive State.Answered (s : State) (work : State → Prop) : State → Prop
  | intro (r : UplinkRequest) (u : State) (a : Answer) (hserving : s.serving = some .uplinkRequest)
      (hslot : s.uplink.slot = .inService r) (hwork : work u) (hstatus : a.status ≠ .busy) :
      s.Answered work (u.finishUplink r a)

/-- One effect of a command. -/
inductive State.Effect (s : State) : State → Prop
  | tickClock : s.Effect s.tickClock
  | countTick (hrst : s.rstAsserted = false) : s.Effect s.countTick
  | expiry (n : Lane) (hrst : s.rstAsserted = false) : s.Effect (s.setLane n (s.lanes.get n).takeExpiry)
  | loseLink : s.Effect { s with gc := s.gc.loseLink }
  | assertEvac (hdue : s.evacAssertionDue = true) : s.Effect s.assertEvac
  | releaseEvac (hdue : s.evacReleaseDue = true) : s.Effect s.releaseEvac
  | encoder (n : Lane) (pair : EncoderPair) (hrst : s.rstAsserted = false) :
      s.Effect (s.setLane n
        ((s.lanes.get n).takePair pair (s.contexts.get n).holdRef.isSome s.clock.time))
  | command (c : LaneCommand) (rest : List LaneCommand) (hrst : s.rstAsserted = false)
      (hcommands : s.commands = c :: rest) : s.Effect ({ s with commands := rest }.takeLaneCommand c)
  | settleCommands (hrst : s.rstAsserted = false) : s.Effect s.settleCommands
  | choose (item : Service) (hmay : s.mayChoose = true) (hcommands : s.commands = [])
      (hnext : s.nextService = some item) : s.Effect (s.choose item)
  | receive (rx : Receiver) : s.Effect { s with uplink := { s.uplink with receiver := rx } }
  | hear (rx : Receiver) (r : UplinkRequest) :
      s.Effect
        { s with gc := s.gc.hearFrame, uplink := UplinkPort.takeRequest { s.uplink with receiver := rx } r }
  | busySent (r : UplinkReply) (rest : List UplinkReply) (hreplies : s.uplink.replies = r :: rest)
      (hbusy : r.status = .busy) : s.Effect { s with uplink := { s.uplink with replies := rest } }
  | replySent (r : UplinkReply) (rest : List UplinkReply) (hdue : s.warmResetDue = false)
      (hreplies : s.uplink.replies = r :: rest) (hbusy : r.status ≠ .busy) :
      s.Effect
        { s with
          uplink := { s.uplink with replies := rest, slot := .empty }, warmResetDue := s.restarting }
  | transferBegin (n : Lane) : s.Effect (s.setPort n ((s.ports.get n).beginTransfer s.rstAsserted))
  | transferEnd (n : Lane) (bits : List Bool) :
      s.Effect (s.setPort n ((s.ports.get n).endTransfer s.rstAsserted bits))
  | holdReset : s.Effect s.holdReset
  | pin (level : Bool) (hrst : s.rstAsserted = false) : s.Effect { s with evacPin := level }
  | pinHeld (level : Bool) (hrst : s.rstAsserted = true) :
      s.Effect ({ s with evacPin := level }.mapLanes (LaneUnit.followPin level))
  | warmReset (pins : WarmPins) : s.Effect (s.warmReset pins)
  | endHold (n : Lane) (slot : Nat) (r : Record) (h : Hold) (howEnded : HoldEnd) (u : State)
      (hserving : s.serving = some (.completion n)) (hcompletion : (s.lanes.get n).completion ≠ none)
      (hheld : s.heldAt n = some (slot, r, h)) (hends : s.HoldEnds slot r h u) :
      s.Effect (u.closeHold n howEnded r.ticket).finish
  | endLaneHold (n : Lane) (hserving : s.serving = some (.completion n))
      (hcompletion : (s.lanes.get n).completion ≠ none) (hheld : s.heldAt n = none) :
      s.Effect (s.setLane n (s.lanes.get n).endHold).finish
  | forcedReport (n : Lane) (hserving : s.serving = some (.forcedReport n)) :
      s.Effect ((s.takeForcedReport n).reportRecordless .forced (.lane n) s.clock.time).finish
  | gateEvent (e : GateEvent) (rest : List GateEvent) (hserving : s.serving = some .gateEvent)
      (hevents : s.gc.events = e :: rest) :
      s.Effect (({ s with gc := { s.gc with events := rest } }.reportRecordless e.kind (.gate s.gc.gateId)
        s.clock.time).finish)
  | backfill (slot : Nat) (r : Record) (hserving : s.serving = some .backfill)
      (hfirst : s.table.firstPending = some (slot, r)) (hroom : s.journalHasRoom = true) :
      s.Effect ((s.append .snapshot (.gate s.gc.gateId) s.clock.time
        (some (r.fields (s.zoneOf r)))).clearPending slot r).finish
  | noBackfill (hserving : s.serving = some .backfill) : s.Effect s.finish
  | lane (n : Lane) (q : LaneRequest) (u : State) (reply : LaneReply)
      (hserving : s.serving = some (.laneRequest n)) (hrequest : (s.ports.get n).request = .inService q)
      (hwork : s.LaneWork n u) : s.Effect (u.finishLaneRequest n reply)
  | uplink (t : State) (h : s.Answered s.UplinkWork t) : s.Effect t

/-- A chain of effects. -/
abbrev State.Effects : State → State → Prop := Relation.ReflTransGen State.Effect

end Sys2Proof.Machine
end

section
/-! Every command is a chain of the elementary effects. -/

namespace Sys2Proof.Machine

/-! ### Chains -/

theorem State.Effect.chain {s t : State} (h : s.Effect t) : s.Effects t := .single h

/-- A fold of an operation that is a chain of effects at a part whose RST stays as it is. -/
theorem State.Effects.foldl {α : Type} {f : State → α → State} {rst : Bool}
    (hf : ∀ (s : State) (a : α), s.rstAsserted = rst → s.Effects (f s a) ∧ (f s a).rstAsserted = rst) (l : List α)
    (s : State) (hs : s.rstAsserted = rst) :
    s.Effects (l.foldl f s) ∧ (l.foldl f s).rstAsserted = rst := by
  induction l generalizing s with
  | nil => exact ⟨.refl, hs⟩
  | cons a l ih =>
    obtain ⟨hstep, hrst⟩ := hf s a hs
    obtain ⟨hrest, hrst'⟩ := ih (f s a) hrst
    exact ⟨hstep.trans hrest, hrst'⟩

/-! ### What is due -/

theorem State.settleExpiry_effects (s : State) (n : Lane) (h : s.rstAsserted = false) :
    s.Effects (s.settleExpiry n) ∧ (s.settleExpiry n).rstAsserted = false := by
  unfold State.settleExpiry
  split
  · exact ⟨(State.Effect.expiry n h).chain, h⟩
  · exact ⟨.refl, h⟩

theorem State.settleTimeout_effects (s : State) : s.Effects s.settleTimeout := by
  unfold State.settleTimeout
  split
  · exact State.Effect.loseLink.chain
  · exact .refl

theorem State.settleEvac_effects (s : State) : s.Effects s.settleEvac := by
  unfold State.settleEvac
  split
  · rename_i h; exact (State.Effect.assertEvac h).chain
  · split
    · rename_i h; exact (State.Effect.releaseEvac h).chain
    · exact .refl

@[simp] theorem State.settleTimeout_rstAsserted (s : State) : s.settleTimeout.rstAsserted = s.rstAsserted := by
  unfold State.settleTimeout
  split <;> rfl

@[simp] theorem State.settleEvac_rstAsserted (s : State) : s.settleEvac.rstAsserted = s.rstAsserted := by
  unfold State.settleEvac
  split
  · rfl
  · split <;> rfl

theorem State.settleDue_effects (s : State) (h : s.rstAsserted = false) :
    s.Effects s.settleDue ∧ s.settleDue.rstAsserted = false := by
  obtain ⟨hexpiries, hrst⟩ := State.Effects.foldl State.settleExpiry_effects lanesAscending s h
  exact ⟨(hexpiries.trans (State.settleTimeout_effects _)).trans (State.settleEvac_effects _),
    by simpa [State.settleDue] using hrst⟩

/-- A complete frame's arrival: the receiver hunts again, and a sound frame's request is handed over (R197). -/
theorem State.arrive_effects (s : State) : s.Effects s.arrive ∧ s.arrive.rstAsserted = s.rstAsserted := by
  unfold State.arrive
  split
  · exact ⟨.refl, rfl⟩
  · dsimp only
    split
    · exact ⟨(State.Effect.hear _ _).chain, rfl⟩
    · exact ⟨(State.Effect.receive _).chain, rfl⟩

theorem State.settleAll_effects (s : State) (h : s.rstAsserted = false) : s.Effects s.settleAll := by
  obtain ⟨harrive, hrst⟩ := s.arrive_effects
  exact harrive.trans (State.settleDue_effects _ (hrst.trans h)).1

/-! ### Ends of a hold -/

/-- A command that answers a state answers that one. -/
theorem next_inj {s t : State} (h : (.next s : Host.Outcome State Fault Refusal) = .next t) : s = t :=
  Host.Outcome.next.inj h

theorem reservedReleased_modifyReservedZone (s : State) (h : Hold) (f : ZoneRecord → ZoneRecord)
    (hf : ∀ z, (f z).reserved = z.reserved - 1) :
    ReservedReleased h s.zones (s.modifyReservedZone h f).zones := by
  intro z
  obtain ⟨-, hget⟩ := State.modifyReservedZone_eq s h f
  rw [hget z]
  split
  · exact hf _
  · rfl

theorem reservedAlike_modifyZone (s : State) (z : ZoneNo) (f : ZoneRecord → ZoneRecord)
    (hf : ∀ x, (f x).reserved = x.reserved) : ReservedAlike s.zones (s.modifyZone z f).zones := by
  intro y
  simp only [State.modifyZone, get_set]
  split
  · rename_i h; rw [hf, h]
  · rfl

theorem State.modifyReservedZone_frame (s : State) (h : Hold) (f : ZoneRecord → ZoneRecord) :
    s.modifyReservedZone h f = { s with zones := (s.modifyReservedZone h f).zones } :=
  (State.modifyReservedZone_eq s h f).1

theorem State.endNonCommit_holdEnds (s : State) (slot : Nat) (r : Record) (h : Hold) (now : VenueTime) :
    s.HoldEnds slot r h (s.endNonCommit slot r h now) := by
  obtain ⟨u, hu, hcases⟩ := State.endNonCommit_cases s slot r h now
  have hzones :=
    reservedReleased_modifyReservedZone (s.setRecord slot (r.afterNonCommit h)) h ZoneRecord.release fun _ => rfl
  have hframe := State.modifyReservedZone_frame (s.setRecord slot (r.afterNonCommit h)) h ZoneRecord.release
  rw [hu] at hzones hframe
  obtain ⟨m, -, -, hend⟩ | ⟨-, hend⟩ := hcases
  · rw [hend, hframe]
    exact .reported _ _ _ _ _ _ .withoutPassage (fun _ => hzones) rfl
  · rw [hend, hframe]
    exact .silent _ _ .withoutPassage fun _ => hzones

theorem State.endCommit_holdEnds (s : State) (slot : Nat) (r : Record) (h : Hold) (capture : VenueTime) :
    s.HoldEnds slot r h (s.endCommit slot r h capture) := by
  unfold State.endCommit
  cases hd : h.direction with
  | IN =>
    dsimp only
    rw [State.modifyReservedZone_frame]
    refine .reported _ _ _ _ _ _ (.entry _ capture hd)
      (fun _ => reservedReleased_modifyReservedZone (s.setRecord slot _) h _ fun _ => rfl) ?_
    split <;> rfl
  | OUT =>
    refine .reported _ _ _ _ _ _ (.exit _ capture hd) (fun hok => ?_) rfl
    obtain ⟨-, hok⟩ := hok
    rw [hd] at hok
    obtain ⟨-, hzone, -⟩ := hok
    intro z
    rw [hzone]
    exact reservedAlike_modifyZone s _ ZoneRecord.countOut (fun _ => rfl) z

theorem State.completionInService_eq_some {s : State} {n : Lane} {c : Completion}
    (h : s.completionInService = some (n, c)) :
    s.serving = some (.completion n) ∧ (s.lanes.get n).completion ≠ none := by
  unfold State.completionInService at h
  split at h
  · rename_i m hm
    obtain ⟨c', hc, heq⟩ := Option.map_eq_some_iff.mp h
    cases heq
    exact ⟨hm, by simp [hc]⟩
  · cases h

theorem State.serveCommit_effect {s : State} {n : Lane} {capture : VenueTime} {c : Completion}
    (h : s.completionInService = some (n, c)) : s.Effect (s.serveCommit n capture) := by
  obtain ⟨hserving, hcompletion⟩ := State.completionInService_eq_some h
  unfold State.serveCommit
  split
  · rename_i hheld
    exact .endHold n _ _ _ _ _ hserving hcompletion hheld (State.endCommit_holdEnds ..)
  · rename_i hheld; exact .endLaneHold n hserving hcompletion hheld

theorem State.serveNonCommit_effect {s : State} {n : Lane} {howEnded : HoldEnd} {c : Completion}
    (h : s.completionInService = some (n, c)) : s.Effect (s.serveNonCommit n howEnded) := by
  obtain ⟨hserving, hcompletion⟩ := State.completionInService_eq_some h
  unfold State.serveNonCommit
  split
  · rename_i hheld
    exact .endHold n _ _ _ _ _ hserving hcompletion hheld (State.endNonCommit_holdEnds ..)
  · rename_i hheld; exact .endLaneHold n hserving hcompletion hheld

/-! ### Lane requests -/

theorem credentialOfDigits_uid (form : Form) (side : Side) (uid : Option Uid) (cluster : EventCode)
    (digits : List Digit) : ∀ u ∈ (credentialOfDigits form side uid cluster digits).uid, u ∈ uid := by
  unfold credentialOfDigits
  repeat' split
  all_goals simp [Credential.malformed]

theorem normalizeCode_uid (cluster : EventCode) (side : Side) (text : List Byte) :
    ∀ u ∈ (normalizeCode cluster side text).uid, uidOk u := by
  unfold normalizeCode
  split
  · intro u hu
    cases credentialOfDigits_uid _ _ _ _ _ u hu
  · simp [Credential.malformed]

/-- A credential's UID has a card's length (R8). -/
theorem normalizeCard_uid (cluster : EventCode) (side : Side) (uid : Uid) (payload : List Byte) :
    ∀ u ∈ (normalizeCard cluster side uid payload).uid, uidOk u := by
  unfold normalizeCard
  split
  · rename_i hlength
    split
    · intro u hu
      cases credentialOfDigits_uid _ _ _ _ _ u hu
      exact hlength
    · simp [Credential.malformed]
  · simp [Credential.malformed]

theorem State.present_work (s : State) (n : Lane) (cred : Credential) (huid : ∀ u ∈ cred.uid, uidOk u) :
    s.LaneWork n (s.present n cred).1 := by
  unfold State.present
  split
  · exact .refuse
  · exact .refuse
  · exact .nothing
  · rename_i hdecision; exact .grant cred _ _ huid hdecision

theorem State.cancelHold_work (s : State) (n : Lane) : s.LaneWork n (s.cancelHold n).1 := by
  unfold State.cancelHold
  split
  · rename_i hheld hstate
    exact .cancel _ _ _ _ hheld hstate (State.endNonCommit_holdEnds ..)
  · exact .nothing

theorem State.laneWork_effect {s u : State} {n : Lane} {q : LaneRequest} (reply : LaneReply)
    (h : s.laneRequestInService = some (n, q)) (hwork : s.LaneWork n u) :
    s.Effect (u.finishLaneRequest n reply) := by
  obtain ⟨hserving, hrequest⟩ := (State.laneRequestInService_eq_some s n q).mp h
  exact .lane n q u reply hserving hrequest hwork

/-! ### Uplink requests -/

theorem clamp_bounds {low high : Nat} (h : low ≤ high) (n : Nat) :
    low ≤ clamp low high n ∧ clamp low high n ≤ high := by
  unfold clamp
  omega

theorem gateIdOf?_ne_zero {b : Byte} {g : GateId} (h : gateIdOf? b = some g) : g ≠ 0 := by
  unfold gateIdOf? at h
  split at h
  · rename_i hb
    cases h
    intro h0
    have := congrArg Fin.val h0
    simp at this
    omega
  · cases h

theorem noticeOf?_gate {p : List Byte} {x : Notice} (h : noticeOf? p = some x) : x.gate ≠ 0 := by
  unfold noticeOf? at h
  split at h
  · rename_i hg
    cases h
    exact gateIdOf?_ne_zero hg
  · cases h

/-- The work of an uplink service, and a status that is not BUSY. -/
abbrev ServiceWorks (work : State → State → Prop) (s : State) (x : State × Answer) : Prop :=
  work s x.1 ∧ x.2.status ≠ .busy

theorem works_of_refuse {work : State → State → Prop} {s : State} {st : Status} (hwork : work s s)
    (hst : st ≠ .busy) : ServiceWorks work s (s, .refuse st) := ⟨hwork, hst⟩

theorem works_of_ok {work : State → State → Prop} {s u : State} {p : List Byte} (hwork : work s u) :
    ServiceWorks work s (u, .ok p) := ⟨hwork, Status.noConfusion⟩

theorem works_of_notice {s u : State} {st : Status} {slot : Nat} {r : Record} {withdrawSent : Bool}
    (hwork : s.UplinkWork u) (hst : st ≠ .busy) :
    ServiceWorks State.UplinkWork s (u, noticeAnswer st slot r withdrawSent) := ⟨hwork, hst⟩

theorem noteAdmitHeld_works (s : State) (slot : Nat) (r : Record) (h : Hold) (x : Notice)
    (hmem : (slot, r) ∈ s.table) (hstate : r.state = .held h) (hgate : x.gate ≠ 0) :
    ServiceWorks State.UplinkWork s (noteAdmitHeld s slot r h x) := by
  unfold noteAdmitHeld
  split
  · exact works_of_notice .nothing (by decide)
  · rename_i hd _
    exact works_of_notice (.noteHeld slot r _ h _ hmem (.marked h ⟨x.gate, x.time⟩ hgate hstate hd) hstate
      (reservedAlike_modifyZone s _ ZoneRecord.countIn fun _ => rfl)) (by decide)
  · exact works_of_notice (.doubleHeld slot r h _ _ _ _ hmem hstate
      (reservedAlike_modifyZone s _ ZoneRecord.countIn fun _ => rfl)) (by decide)

theorem noteAdmitFound_works (s : State) (slot : Nat) (r : Record) (x : Notice) (hmem : (slot, r) ∈ s.table)
    (hgate : x.gate ≠ 0) : ServiceWorks State.UplinkWork s (noteAdmitFound s slot r x) := by
  have applied (hstate : r.state = .valid ∨ r.state = .outside) :=
    State.UplinkWork.note slot r _ _ hmem (.admitted x hgate hstate)
      (reservedAlike_modifyZone s (s.zoneOf r) ZoneRecord.countIn fun _ => rfl)
  unfold noteAdmitFound
  cases hstate : r.state with
  | valid => exact works_of_notice (applied (.inl hstate)) (by decide)
  | outside => exact works_of_notice (applied (.inr hstate)) (by decide)
  | held h => exact noteAdmitHeld_works s slot r h x hmem hstate hgate
  | _ => exact works_of_notice (.double slot r _ _ _) (by decide)

theorem noteExitFound_works (s : State) (slot : Nat) (r : Record) (x : Notice) (hmem : (slot, r) ∈ s.table)
    (hgate : x.gate ≠ 0) : ServiceWorks State.UplinkWork s (noteExitFound s slot r x) := by
  unfold noteExitFound
  split
  · rename_i hstate
    exact works_of_notice (.note slot r _ _ hmem (.exited _ x hgate hstate)
      (reservedAlike_modifyZone s _ ZoneRecord.countOut fun _ => rfl)) (by decide)
  · exact works_of_notice .nothing (by decide)
  · exact works_of_notice .nothing (by decide)

theorem noticeService_works {found : State → Nat → Record → Notice → State × Answer}
    (hfound : ∀ (s : State) (slot : Nat) (r : Record) (x : Notice), (slot, r) ∈ s.table → x.gate ≠ 0 →
      ServiceWorks State.UplinkWork s (found s slot r x)) (s : State) (p : List Byte) :
    ServiceWorks State.UplinkWork s (noticeService found s p) := by
  unfold noticeService
  split
  · exact works_of_refuse .nothing (by decide)
  · rename_i x hx
    split
    · exact works_of_refuse .nothing (by decide)
    · split
      · exact works_of_refuse .nothing (by decide)
      · rename_i hlookup
        exact hfound s _ _ x (Table.lookup_mem hlookup).1 (noticeOf?_gate hx)

theorem revokeService_works (s : State) (p : List Byte) :
    ServiceWorks State.UplinkWork s (revokeService s p) := by
  unfold revokeService
  split
  · exact works_of_refuse .nothing (by decide)
  · split
    · exact works_of_refuse .nothing (by decide)
    · rename_i slot r hlookup
      have hmem := (Table.lookup_mem hlookup).1
      have hsame : ReservedAlike s.zones s.zones := .refl _
      split
      · rename_i h hstate
        exact works_of_notice (.noteHeld slot r _ h s.zones hmem (.revokeMarked h hstate) hstate hsame) (by decide)
      · rename_i hstate
        have hhold : r.hold? = none := by
          cases hh : r.hold? with
          | none => rfl
          | some h => exact absurd ((r.hold?_eq_some h).mp hh) (hstate h)
        exact works_of_notice (.note slot r _ s.zones hmem (.revoked hhold) hsame) (by decide)

theorem setClassService_works (s : State) (p : List Byte) :
    ServiceWorks State.UplinkWork s (setClassService s p) := by
  unfold setClassService
  split
  · exact works_of_refuse .nothing (by decide)
  · rename_i hrecord
    refine works_of_ok (.setClass _ _ ?_)
    unfold classRecordOf? at hrecord
    split at hrecord
    · dsimp only at hrecord
      split at hrecord
      · cases hrecord; exact Nat.min_le_right _ _
      · cases hrecord
    · cases hrecord

theorem setZoneService_works (s : State) (p : List Byte) :
    ServiceWorks State.UplinkWork s (setZoneService s p) := by
  unfold setZoneService
  split
  · exact works_of_refuse .nothing (by decide)
  · refine works_of_ok (.setZone _ fun z => ?_)
    simp only [get_set]
    split
    · rename_i h; rw [h]
    · rfl

theorem setIdentityService_works (s : State) (p : List Byte) :
    ServiceWorks State.UplinkWork s (setIdentityService s p) := by
  unfold setIdentityService
  split
  · split
    · exact works_of_refuse .nothing (by decide)
    · exact works_of_ok (.setIdentity _ _)
  · exact works_of_refuse .nothing (by decide)

theorem setLinkTimeoutService_works (s : State) (p : List Byte) :
    ServiceWorks State.UplinkWork s (setLinkTimeoutService s p) := by
  have hbyte := (byteAt p 0).isLt
  refine works_of_ok (.setLinkTimeout _ (Nat.le_max_left _ _) ?_)
  simp only [Config.minLinkTimeout]
  omega

theorem openGateService_works (s : State) (p : List Byte) :
    ServiceWorks State.UplinkWork s (openGateService s p) := by
  unfold openGateService
  split
  · exact works_of_refuse .nothing (by decide)
  · rename_i hgate; exact works_of_ok (.setGate .opened hgate (by decide))

theorem closeGateService_works (s : State) (p : List Byte) :
    ServiceWorks State.UplinkWork s (closeGateService s p) := by
  unfold closeGateService
  split
  · exact works_of_refuse .nothing (by decide)
  · rename_i hgate; exact works_of_ok (.setGate .closed hgate (by decide))

/-- What a SET_LANE payload carries is in range (R131). -/
theorem laneChangeOf?_bounds {p : List Byte} {c : LaneChange} (h : laneChangeOf? p = some c) :
    (∀ w ∈ c.window, Config.minWindow ≤ w ∧ w ≤ Config.maxWindow) ∧
      ∀ k ∈ c.threshold, Config.minThreshold ≤ k ∧ k ≤ Config.maxThreshold := by
  unfold laneChangeOf? at h
  dsimp only at h
  split at h
  · cases h
    constructor <;> intro w hw <;> dsimp only at hw <;> split at hw <;> cases hw <;>
      exact clamp_bounds (by decide) _
  · cases h

theorem setLaneService_works (s : State) (p : List Byte) :
    ServiceWorks State.UplinkWork s (setLaneService s p) := by
  unfold setLaneService
  split
  · exact works_of_refuse .nothing (by decide)
  · rename_i c hc
    obtain ⟨hwindow, hthreshold⟩ := laneChangeOf?_bounds hc
    dsimp only
    split
    · exact works_of_refuse .nothing (by decide)
    · rename_i hrole
      refine works_of_ok (.setLane c hwindow hthreshold fun hnamed => ?_)
      by_contra hne
      exact hrole ⟨Option.isSome_iff_ne_none.mpr hnamed, hne⟩

theorem readTalliesService_works (s : State) (p : List Byte) :
    ServiceWorks State.UplinkWork s (readTalliesService s p) := by
  unfold readTalliesService
  split
  · exact works_of_refuse .nothing (by decide)
  · refine works_of_ok ?_
    split
    · exact .clearTallies
    · exact .nothing

/-- Serving an uplink request is an effect, when its service's work is one. -/
theorem State.serveUplink_effects (s : State) (k : UplinkKind) (serve : State → List Byte → State × Answer)
    (hserve : ∀ s p, ServiceWorks State.UplinkWork s (serve s p)) : s.Effects (s.serveUplink k serve) := by
  obtain ⟨r, hserving, hslot, -, heq⟩ | heq := s.serveUplink_cases k serve
  · obtain ⟨hwork, hstatus⟩ := hserve s r.payload
    rw [heq]
    exact (State.Effect.uplink _ (.intro r _ _ hserving hslot hwork hstatus)).chain
  · rw [heq]

/-! ### Commands -/

theorem execServiceArbiterChoice_effects {s t : State} (h : execServiceArbiterChoice s = .next t) :
    s.Effects t := by
  unfold execServiceArbiterChoice at h
  split at h
  · rename_i hmay
    have hrst : s.rstAsserted = false := by
      simp only [State.mayChoose, Bool.and_eq_true, Bool.not_eq_true'] at hmay
      exact hmay.1.1
    have hsettled : s.Effects s.settleCommands := (State.Effect.settleCommands hrst).chain
    have hfold (l : List LaneCommand) (u : State) :
        (l.foldl State.takeLaneCommand u).commands = u.commands ∧
          (l.foldl State.takeLaneCommand u).mayChoose = u.mayChoose := by
      induction l generalizing u with
      | nil => exact ⟨rfl, rfl⟩
      | cons c l ih =>
        obtain ⟨hcommands, hmay⟩ := ih (u.takeLaneCommand c)
        cases c <;> exact ⟨hcommands, hmay⟩
    obtain ⟨hcommands, hmay'⟩ := hfold s.commands { s with commands := [] }
    dsimp only at h
    split at h
    · rename_i item hnext
      obtain rfl := next_inj h
      exact hsettled.tail (.choose item (hmay'.trans hmay) hcommands hnext)
    · obtain rfl := next_inj h; exact hsettled
  · obtain rfl := next_inj h; exact .refl

theorem execReplySent_effects {s t : State} (h : execReplySent s = .next t) : s.Effects t := by
  unfold execReplySent at h
  split at h
  · rename_i r rest hdue hreplies
    simp only [Bool.or_eq_false_iff] at hdue
    obtain ⟨-, hdue⟩ := hdue
    split at h <;> obtain rfl := next_inj h
    · rename_i hbusy; exact (State.Effect.busySent r rest hreplies hbusy).chain
    · rename_i hbusy; exact (State.Effect.replySent r rest hdue hreplies hbusy).chain
  · obtain rfl := next_inj h; exact .refl

theorem execVenueClockTick_effects {s t : State} (h : execVenueClockTick s = .next t) : s.Effects t := by
  have hclock : s.Effects s.tickClock := State.Effect.tickClock.chain
  unfold execVenueClockTick at h
  split at h <;> obtain rfl := next_inj h
  · exact hclock
  · rename_i hrst
    obtain ⟨hsettle, hrst'⟩ := State.settleDue_effects s.tickClock (by simpa using hrst)
    exact (hclock.trans hsettle).tail (.countTick hrst')

theorem execCharacterReceived_effects {c : Character} {s t : State} (h : execCharacterReceived c s = .next t) :
    s.Effects t := by
  unfold execCharacterReceived at h
  split at h <;> obtain rfl := next_inj h
  · exact .refl
  · exact s.arrive_effects.1.tail (.receive _)

theorem execWarmReset_effects {pins : WarmPins} {s t : State} (h : execWarmReset pins s = .next t) :
    s.Effects t := by
  unfold execWarmReset at h
  split at h
  · obtain rfl := next_inj h; exact (State.Effect.warmReset pins).chain
  · rename_i hrst
    split at h <;> obtain rfl := next_inj h
    · exact (State.settleAll_effects s (by simpa using hrst)).tail (.warmReset pins)
    · exact .refl

theorem execEvacPinChange_effects {level : Bool} {s t : State} (h : execEvacPinChange level s = .next t) :
    s.Effects t := by
  unfold execEvacPinChange at h
  dsimp only at h
  split at h <;> obtain rfl := next_inj h
  · rename_i hrst; exact (State.Effect.pinHeld level hrst).chain
  · rename_i hrst; exact (State.Effect.pin level (by simpa using hrst)).chain

theorem execBackfillStep_effects {s t : State} (h : execBackfillStep s = .next t) : s.Effects t := by
  unfold execBackfillStep at h
  split at h <;> obtain rfl := next_inj h
  · rename_i hserving hfirst hroom; exact (State.Effect.backfill _ _ hserving hfirst hroom).chain
  · rename_i hserving _; exact (State.Effect.noBackfill hserving).chain
  · exact .refl

/-- Every command but a power-on reset and the three requests that load, drop or clear tickets is a chain of
effects. -/
theorem exec_effects {c : Instr} {s t : State} (hpower : ∀ pins, c ≠ .powerOnReset pins) (hload : c ≠ .loadTicket)
    (hdrop : c ≠ .dropTicket) (hclear : c ≠ .clearTable) (h : exec c s = .next t) : s.Effects t := by
  have served {k : UplinkKind} {serve : State → List Byte → State × Answer}
      (hserve : ∀ s p, ServiceWorks State.UplinkWork s (serve s p))
      (ht : (.next (s.serveUplink k serve) : Host.Outcome State Fault Refusal) = .next t) : s.Effects t := by
    obtain rfl := next_inj ht
    exact s.serveUplink_effects k serve hserve
  cases c <;> simp only [exec] at h
  case powerOnReset pins => exact absurd rfl (hpower pins)
  case loadTicket => exact absurd rfl hload
  case dropTicket => exact absurd rfl hdrop
  case clearTable => exact absurd rfl hclear
  case rstAssertion =>
    unfold execRstAssertion at h
    split at h <;> obtain rfl := next_inj h
    · exact .refl
    · rename_i hrst; exact (s.settleAll_effects (by simpa using hrst)).tail .holdReset
  case warmReset => exact execWarmReset_effects h
  case venueClockTick => exact execVenueClockTick_effects h
  case evacAssertion =>
    unfold execEvacAssertion at h
    split at h <;> obtain rfl := next_inj h
    · rename_i hdue; exact (State.Effect.assertEvac hdue).chain
    · exact .refl
  case evacRelease =>
    unfold execEvacRelease at h
    split at h <;> obtain rfl := next_inj h
    · rename_i hdue; exact (State.Effect.releaseEvac hdue).chain
    · exact .refl
  case encoderEvent =>
    unfold execEncoderEvent at h
    dsimp only at h
    split at h <;> obtain rfl := next_inj h
    · exact .refl
    · rename_i hrst; exact (State.Effect.encoder _ _ (by simpa using fun h => hrst (.inl h))).chain
  case armTimerExpiry =>
    unfold execArmTimerExpiry at h
    split at h <;> obtain rfl := next_inj h
    · exact .refl
    · rename_i hrst; exact (s.settleExpiry_effects _ (by simpa using hrst)).1
  case armCommand =>
    unfold execArmCommand at h
    split at h <;> obtain rfl := next_inj h
    · rename_i hrst hcommands; exact (State.Effect.command _ _ hrst hcommands).chain
    · exact .refl
  case withdrawCommand =>
    unfold execWithdrawCommand at h
    split at h <;> obtain rfl := next_inj h
    · rename_i hrst hcommands; exact (State.Effect.command _ _ hrst hcommands).chain
    · exact .refl
  case linkMonitorTimeout =>
    unfold execLinkMonitorTimeout at h
    split at h <;> obtain rfl := next_inj h
    · exact .refl
    · exact s.settleTimeout_effects
  case commitCompletion =>
    unfold execCommitCompletion at h
    split at h <;> obtain rfl := next_inj h
    · rename_i hc; exact (State.serveCommit_effect hc).chain
    · exact .refl
  case expiryCompletion =>
    unfold execExpiryCompletion at h
    split at h <;> obtain rfl := next_inj h
    · rename_i hc; exact (State.serveNonCommit_effect hc).chain
    · exact .refl
  case withdrawnCompletion =>
    unfold execWithdrawnCompletion at h
    split at h <;> obtain rfl := next_inj h
    · rename_i hc; exact (State.serveNonCommit_effect hc).chain
    · exact .refl
  case forcedReportService =>
    unfold execForcedReportService at h
    split at h <;> obtain rfl := next_inj h
    · rename_i hserving; exact (State.Effect.forcedReport _ hserving).chain
    · exact .refl
  case gateEventService =>
    unfold execGateEventService at h
    split at h <;> obtain rfl := next_inj h
    · rename_i hserving hevents; exact (State.Effect.gateEvent _ _ hserving hevents).chain
    · exact .refl
  case backfillStep => exact execBackfillStep_effects h
  case transferBegin n => obtain rfl := next_inj h; exact (State.Effect.transferBegin n).chain
  case transferEnd n bits => obtain rfl := next_inj h; exact (State.Effect.transferEnd n bits).chain
  case presentCode =>
    unfold execPresentCode at h
    split at h <;> obtain rfl := next_inj h
    · rename_i hq; exact (State.laneWork_effect _ hq (s.present_work _ _ (normalizeCode_uid _ _ _))).chain
    · exact .refl
  case presentCard =>
    unfold execPresentCard at h
    split at h <;> obtain rfl := next_inj h
    · rename_i hq; exact (State.laneWork_effect _ hq (s.present_work _ _ (normalizeCard_uid _ _ _ _))).chain
    · exact .refl
  case cancel =>
    unfold execCancel at h
    split at h <;> obtain rfl := next_inj h
    · rename_i hq; exact (State.laneWork_effect _ hq (s.cancelHold_work _)).chain
    · exact .refl
  case poll =>
    unfold execPoll at h
    split at h <;> obtain rfl := next_inj h
    · rename_i hq; exact (State.laneWork_effect _ hq .poll).chain
    · exact .refl
  case uplinkFrameArrival =>
    unfold execUplinkFrameArrival at h
    split at h <;> obtain rfl := next_inj h
    · exact .refl
    · exact s.arrive_effects.1
  case interByteGap =>
    unfold execInterByteGap at h
    split at h <;> obtain rfl := next_inj h
    · exact .refl
    · exact (State.Effect.receive _).chain
  case replySent => exact execReplySent_effects h
  case characterReceived => exact execCharacterReceived_effects h
  case serviceArbiterChoice => exact execServiceArbiterChoice_effects h
  case evacPinChange => exact execEvacPinChange_effects h
  case unknownRequest => exact served (fun _ _ => works_of_refuse .nothing (by decide)) h
  case queryTicket =>
    refine served (fun s p => ?_) h
    unfold queryTicketService
    split
    · exact works_of_refuse .nothing (by decide)
    · split
      · exact works_of_refuse .nothing (by decide)
      · exact works_of_ok .nothing
  case setClass => exact served setClassService_works h
  case setZone => exact served setZoneService_works h
  case setClock => exact served (fun _ _ => works_of_ok (.setClock _)) h
  case readClock => exact served (fun _ _ => works_of_ok .nothing) h
  case noteAdmit => exact served (noticeService_works noteAdmitFound_works) h
  case noteExit => exact served (noticeService_works noteExitFound_works) h
  case revoke => exact served revokeService_works h
  case takeJournal => exact served (fun _ _ => works_of_ok (.takeJournal _)) h
  case setWatermark =>
    refine served (fun _ p => works_of_ok ?_) h
    obtain ⟨hlow, hhigh⟩ := clamp_bounds (by decide : 1 ≤ Config.journalCapacity) (field16 p 0).toNat
    exact .setWatermark _ hlow hhigh
  case openGate => exact served openGateService_works h
  case closeGate => exact served closeGateService_works h
  case setIdentity => exact served setIdentityService_works h
  case setLinkTimeout => exact served setLinkTimeoutService_works h
  case setLane => exact served setLaneService_works h
  case readTallies => exact served readTalliesService_works h
  case status => exact served (fun _ _ => works_of_ok .nothing) h
  case restart => exact served (fun _ _ => works_of_ok .restart) h

end Sys2Proof.Machine
end

section
/-! The Admission Table over every command: the canonical form, the ticket numbers, the pending count and each record's
consistency (R17 to R30). -/

namespace Sys2Proof.Machine

/-! ### Entries of a table -/

theorem Table.mem_set {t : Table} {k : Nat} {q : Record} {e : Nat × Record} (h : e ∈ t.set k q) :
    e ∈ t ∨ e = (k, q) := by
  induction t with
  | nil => cases h
  | cons x rest ih =>
    obtain ⟨i, r⟩ := x
    simp only [Table.set] at h
    split at h
    · rename_i hi
      obtain rfl | h := List.mem_cons.mp h
      · exact .inr (by rw [hi])
      · exact .inl (List.mem_cons_of_mem _ h)
    · obtain rfl | h := List.mem_cons.mp h
      · exact .inl List.mem_cons_self
      · exact (ih h).imp_left (List.mem_cons_of_mem _)

theorem Table.mem_insert {t : Table} {k : Nat} {q : Record} {e : Nat × Record} (h : e ∈ Table.insert t k q) :
    e ∈ t ∨ e = (k, q) := by
  induction t with
  | nil => exact .inr (by simpa [Table.insert] using h)
  | cons x rest ih =>
    simp only [Table.insert] at h
    split at h
    · exact (List.mem_cons.mp h).symm
    · obtain rfl | h := List.mem_cons.mp h
      · exact .inl List.mem_cons_self
      · exact (ih h).imp_left (List.mem_cons_of_mem _)

theorem Table.erase_sublist (t : Table) (k : Nat) : (Table.erase t k).Sublist t := by
  induction t with
  | nil => exact .slnil
  | cons x rest ih =>
    simp only [Table.erase]
    split
    · exact List.sublist_cons_self _ _
    · exact ih.cons_cons _

/-- A record written under its own ticket number leaves the ticket numbers as they are. -/
theorem Table.tickets_set {t : Table} {k : Nat} {r q : Record} (hr : t.get? k = some r)
    (hq : q.ticket = r.ticket) : (t.set k q).map (fun e => e.2.ticket) = t.map fun e => e.2.ticket := by
  induction t with
  | nil => rfl
  | cons x rest ih =>
    obtain ⟨i, r'⟩ := x
    simp only [Table.get?] at hr
    simp only [Table.set]
    split at hr
    · rename_i hi; cases hr; simp [hi, hq]
    · rename_i hi; simp [hi, ih hr]

theorem Table.tickets_insert (t : Table) (k : Nat) (q : Record) :
    ((Table.insert t k q).map fun e => e.2.ticket).Perm (q.ticket :: t.map fun e => e.2.ticket) := by
  induction t with
  | nil => exact .refl _
  | cons x rest ih =>
    simp only [Table.insert]
    split
    · exact .refl _
    · exact (List.Perm.cons _ ih).trans (.swap _ _ _)

/-! ### How many records have a property -/

/-- The number of records with a property. -/
def Table.tally (p : Record → Bool) (t : Table) : Nat := (t.filter fun e => p e.2).length

theorem Table.tally_cons (p : Record → Bool) (e : Nat × Record) (t : Table) :
    Table.tally p (e :: t) = Table.tally p t + (p e.2).toNat := by
  unfold Table.tally
  rw [List.filter_cons]
  cases h : p e.2 <;> simp

theorem Table.tally_set (p : Record → Bool) {t : Table} {k : Nat} {r : Record} (hr : t.get? k = some r)
    (q : Record) : Table.tally p (t.set k q) + (p r).toNat = Table.tally p t + (p q).toNat := by
  induction t with
  | nil => simp [Table.get?] at hr
  | cons x rest ih =>
    obtain ⟨i, r'⟩ := x
    simp only [Table.get?] at hr
    simp only [Table.set]
    split at hr
    · rename_i hi; cases hr; simp only [hi, if_true, Table.tally_cons]; omega
    · rename_i hi; simp only [hi, if_false, Table.tally_cons]; have := ih hr; omega

theorem Table.tally_insert (p : Record → Bool) (t : Table) (k : Nat) (q : Record) :
    Table.tally p (Table.insert t k q) = Table.tally p t + (p q).toNat := by
  induction t with
  | nil => exact Table.tally_cons p _ []
  | cons x rest ih =>
    simp only [Table.insert]
    split
    · exact Table.tally_cons p _ _
    · simp only [Table.tally_cons, ih]; omega

theorem Table.tally_erase (p : Record → Bool) {t : Table} {k : Nat} {r : Record} (hr : t.get? k = some r) :
    Table.tally p (Table.erase t k) + (p r).toNat = Table.tally p t := by
  induction t with
  | nil => simp [Table.get?] at hr
  | cons x rest ih =>
    obtain ⟨i, r'⟩ := x
    simp only [Table.get?] at hr
    simp only [Table.erase]
    split at hr
    · rename_i hi; cases hr; simp [hi, Table.tally_cons]
    · rename_i hi; simp only [hi, if_false, Table.tally_cons]; have := ih hr; omega

theorem State.flagged_eq_tally (s : State) : s.flagged = Table.tally (·.pendingReport) s.table := rfl

/-! ### What an end, a notice and a load keep of a record -/

theorem Record.Ended.frame {r q : Record} {h : Hold} (he : r.Ended h q) :
    q.ticket = r.ticket ∧ q.cls = r.cls ∧ q.pendingReport = r.pendingReport := by
  cases he with
  | withoutPassage =>
    obtain ⟨hticket, hcls, -, hpending⟩ := r.afterNonCommit_frame h
    exact ⟨hticket, hcls, hpending⟩
  | entry => exact ⟨rfl, rfl, rfl⟩
  | exit => exact ⟨rfl, rfl, rfl⟩

theorem Record.Noted.frame {r q : Record} (hn : r.Noted q) :
    q.ticket = r.ticket ∧ q.cls = r.cls ∧ q.pendingReport = r.pendingReport ∧ q.binding = r.binding := by
  cases hn <;> exact ⟨rfl, rfl, rfl, rfl⟩

theorem raiseEntries_ne_zero (e : Fin 16) : raiseEntries e ≠ 0 := by
  revert e
  decide

theorem le_raiseEntries (e : Fin 16) : e ≤ raiseEntries e := by
  revert e
  decide

/-- A record that has passed out is OUTSIDE or SPENT (R55). -/
theorem outsideOrSpent_cases (e limit : Fin 16) :
    outsideOrSpent e limit = .outside ∨ outsideOrSpent e limit = .spent := by
  unfold outsideOrSpent
  split
  · exact .inl rfl
  · exact .inr rfl

/-- The prior state's entries, of a consistent HELD record (R21, R26). -/
theorem Record.Ok.of_held {r : Record} {h : Hold} (hok : r.Ok) (hstate : r.state = .held h) :
    entriesAgree h.prior.state.name r ∧ h.Ok := by
  obtain ⟨hentries, hhold, -⟩ := hok
  rw [Record.reportedState, hstate] at hentries
  exact ⟨hentries, hhold h ((r.hold?_eq_some h).mpr hstate)⟩

/-- A record without a hold is consistent when entries used and last passage agree with its state. -/
theorem Record.Ok.of_unheld {q : Record} (hhold : q.hold? = none) (hentries : entriesAgree q.state.name q)
    (hbinding : ∀ u ∈ q.binding, uidOk u) (hpassage : ∀ lp ∈ q.lastPassage, lp.source ≠ .gate 0) : q.Ok := by
  refine ⟨?_, by simp [hhold], hbinding, hpassage⟩
  unfold Record.reportedState
  cases hstate : q.state with
  | held h => simp [(q.hold?_eq_some h).mpr hstate] at hhold
  | _ => simpa only [hstate] using hentries

theorem Record.hold?_of_state {r : Record} (h : ∀ x, r.state ≠ .held x) : r.hold? = none := by
  cases hh : r.hold? with
  | none => rfl
  | some x => exact absurd ((r.hold?_eq_some x).mp hh) (h x)

/-- No hold outlives its end (R24). -/
theorem Record.Ended.unheld {r q : Record} {h : Hold} (he : r.Ended h q) : q.hold? = none := by
  refine Record.hold?_of_state fun x => ?_
  cases he with
  | withoutPassage =>
    unfold Record.afterNonCommit
    split
    · cases h.prior <;> exact RecordState.noConfusion
    all_goals exact RecordState.noConfusion
  | entry c capture =>
    simp only [Record.afterEntryCommit]
    split <;> exact RecordState.noConfusion
  | exit c capture =>
    simp only [Record.afterExitCommit]
    obtain hs | hs := outsideOrSpent_cases r.entries c.limit <;> rw [hs] <;> split <;>
      exact RecordState.noConfusion

/-- A binding is kept, and a new one is the hold's UID (R23, R98). -/
theorem Record.bindingAfterEntry_cases (r : Record) (h : Hold) (c : ClassRecord) :
    r.bindingAfterEntry h c = r.binding ∨ (r.binding = none ∧ r.bindingAfterEntry h c = h.uid) := by
  unfold Record.bindingAfterEntry
  split
  · rename_i hb; exact .inl hb.symm
  · rename_i hb
    split
    · exact .inr ⟨hb, rfl⟩
    · exact .inl hb.symm

/-- The end of a hold leaves a consistent record consistent (R96 to R101). -/
theorem Record.Ended.ok {r q : Record} {h : Hold} (he : r.Ended h q) (hstate : r.state = .held h) (hok : r.Ok) :
    q.Ok := by
  obtain ⟨hentries, huid, hhold⟩ := hok.of_held hstate
  obtain ⟨-, -, hbinding, hpassage⟩ := hok
  refine Record.Ok.of_unheld he.unheld ?_ ?_ ?_
  · cases he with
    | withoutPassage =>
      unfold Record.afterNonCommit
      split
      · exact hentries
      · exact raiseEntries_ne_zero _
      · rename_i hd _
        rw [hd] at hhold
        rw [hhold.1] at hentries
        exact hentries
      · exact trivial
    | entry c capture =>
      simp only [Record.afterEntryCommit]
      split
      · exact trivial
      · dsimp only [RecordState.name, entriesAgree]
        split <;> exact raiseEntries_ne_zero _
    | exit c capture hd =>
      rw [hd] at hhold
      rw [hhold.1] at hentries
      simp only [Record.afterExitCommit]
      split
      · exact trivial
      · obtain hs | hs := outsideOrSpent_cases r.entries c.limit <;> rw [hs] <;> exact hentries
  · cases he with
    | withoutPassage => rw [(r.afterNonCommit_frame h).2.2.1]; exact hbinding
    | entry c capture =>
      obtain hb | ⟨-, hb⟩ := r.bindingAfterEntry_cases h c <;> simp only [Record.afterEntryCommit, hb]
      · exact hbinding
      · exact huid
    | exit => exact hbinding
  · cases he with
    | withoutPassage =>
      unfold Record.afterNonCommit
      split
      · exact hpassage
      · rename_i m hd hm _
        rw [hd] at hhold
        intro lp hlp
        cases hlp
        intro hgate
        exact hhold.2.2 m hm (Source.gate.inj hgate)
      · exact hpassage
      · exact hpassage
    | entry => intro lp hlp; cases hlp; exact Source.noConfusion
    | exit => intro lp hlp; cases hlp; exact Source.noConfusion

/-- A notice or a revocation leaves a consistent record consistent (R140 to R149). -/
theorem Record.Noted.ok {r q : Record} (hn : r.Noted q) (hok : r.Ok) : q.Ok := by
  obtain ⟨hentries, hhold, hbinding, hpassage⟩ := id hok
  have hgateSource {x : Notice} (hx : x.gate ≠ 0) :
      ∀ lp ∈ some (⟨x.time, .gate x.gate⟩ : Passage), lp.source ≠ .gate 0 := by
    intro lp hlp
    cases hlp
    exact fun h => hx (Source.gate.inj h)
  cases hn with
  | admitted x hx _ =>
    exact .of_unheld rfl (raiseEntries_ne_zero _) hbinding (hgateSource hx)
  | exited c x hx hst =>
    have hcases := outsideOrSpent_cases r.entries c.limit
    refine .of_unheld (Record.hold?_of_state fun y => ?_) ?_ hbinding (hgateSource hx)
    · simp only [Record.exitedElsewhere]
      obtain hs | hs := hcases <;> rw [hs] <;> exact RecordState.noConfusion
    · rw [Record.reportedState, hst] at hentries
      simp only [Record.exitedElsewhere]
      obtain hs | hs := hcases <;> rw [hs] <;> exact hentries
  | revoked => exact .of_unheld rfl trivial hbinding hpassage
  | marked h m hm hst hd =>
    obtain ⟨hentries, huid, hagree⟩ := hok.of_held hst
    rw [hd] at hagree
    obtain ⟨hprior, hzone, -⟩ := hagree
    refine ⟨hentries, fun x hx => ?_, hbinding, hpassage⟩
    cases hx
    refine ⟨huid, ?_⟩
    dsimp only
    rw [hd]
    exact ⟨hprior, hzone, fun m' hm' => by cases hm'; exact hm⟩
  | revokeMarked h hst =>
    obtain ⟨hentries, hholdOk⟩ := hok.of_held hst
    refine ⟨hentries, fun x hx => ?_, hbinding, hpassage⟩
    cases hx
    exact hholdOk

/-! ### What a grant writes -/

/-- The checks of a grant's record have passed (R73). -/
theorem State.checksOfRecord_of_grant {s : State} {n : Lane} {cred : Credential} {slot : Nat} {r : Record}
    (h : s.decision n cred = .grant slot r) :
    checksOfLane s n cred = none ∧ (s.contexts.get n).holdRef = none ∧
      (∃ t, cred.ticket = some t ∧ s.table.lookup t = some (slot, r)) ∧ checksOfRecord s n cred r = none := by
  unfold State.decision at h
  split at h
  · cases h
  · cases h
  · rename_i t hlane hticket
    split at h
    · split at h
      · split at h <;> cases h
      · cases h
    · rename_i href
      split at h
      · cases h
      · rename_i hlookup
        split at h
        · cases h
        · rename_i hchecks
          cases h
          exact ⟨hlane, href, ⟨t, hticket, hlookup⟩, hchecks⟩

theorem checkState_of_checksOfRecord {s : State} {n : Lane} {cred : Credential} {r : Record}
    (h : checksOfRecord s n cred r = none) : checkState r cred.side = none := by
  unfold checksOfRecord at h
  dsimp only at h
  split at h <;> simp only [List.findSome?_eq_none_iff, id] at h <;> exact h _ (by simp)

/-- A granted record stands at a state that lets it pass: VALID or OUTSIDE on the way in, INSIDE on the way out
(R77). -/
theorem State.state_of_grant {s : State} {n : Lane} {cred : Credential} {slot : Nat} {r : Record}
    (h : s.decision n cred = .grant slot r) :
    (cred.side = .IN ∧ (r.state = .valid ∨ r.state = .outside)) ∨ (cred.side = .OUT ∧ r.state = .inside) := by
  obtain ⟨-, -, -, hchecks⟩ := State.checksOfRecord_of_grant h
  have hstate := checkState_of_checksOfRecord hchecks
  unfold checkState at hstate
  split at hstate <;> cases hstate <;> simp_all

/-- The hold of a grant names the record's state as its prior state, and is well made (R26, R82). -/
theorem State.newHold_of_grant {s : State} {n : Lane} {cred : Credential} {slot : Nat} {r : Record}
    (h : s.decision n cred = .grant slot r) (huid : ∀ u ∈ cred.uid, uidOk u) :
    (s.newHold n cred r).prior.state = r.state ∧ (s.newHold n cred r).Ok ∧
      (s.newHold n cred r).reservedZone = (match cred.side with | .IN => some (s.zoneOf r) | .OUT => none) := by
  obtain ⟨hside, hstate | hstate⟩ | ⟨hside, hstate⟩ := State.state_of_grant h <;>
    exact ⟨by simp [State.newHold, hstate, PriorState.state],
      ⟨huid, by simp [State.newHold, hside, hstate]⟩, rfl⟩

theorem State.unheld_of_grant {s : State} {n : Lane} {cred : Credential} {slot : Nat} {r : Record}
    (h : s.decision n cred = .grant slot r) : r.hold? = none := by
  refine Record.hold?_of_state fun x => ?_
  obtain ⟨-, hstate | hstate⟩ | ⟨-, hstate⟩ := State.state_of_grant h <;> rw [hstate] <;>
    exact RecordState.noConfusion

/-- A record held under a well-made hold whose prior state is its own is consistent (R26, R82). -/
theorem Record.Ok.hold {r : Record} {h : Hold} (hok : r.Ok) (hunheld : r.hold? = none)
    (hprior : h.prior.state = r.state) (hhold : h.Ok) : Record.Ok { r with state := .held h } := by
  obtain ⟨hentries, -, hbinding, hpassage⟩ := hok
  refine ⟨?_, fun x hx => ?_, hbinding, hpassage⟩
  · rw [Record.reportedState] at hentries ⊢
    dsimp only
    rw [hprior]
    cases hstate : r.state with
    | held x => simp [(r.hold?_eq_some x).mpr hstate] at hunheld
    | _ => simpa only [hstate] using hentries
  · cases hx
    exact hhold

theorem State.grantHold_frame (s : State) (n : Lane) (cred : Credential) (slot : Nat) (r : Record) :
    ∃ zs, ReservedTaken (s.newHold n cred r) s.zones zs ∧
      s.grantHold n cred slot r =
        { s.rewrite slot { r with state := .held (s.newHold n cred r) } zs with
          contexts := s.contexts.set n { s.contexts.get n with holdRef := some ⟨r.ticket, slot⟩ }
          commands := s.commands ++ [.arm n cred.side] } := by
  refine ⟨((s.setRecord slot { r with state := .held (s.newHold n cred r) }).modifyReservedZone
    (s.newHold n cred r) ZoneRecord.reserve).zones, fun z => ?_, ?_⟩
  · obtain ⟨-, hget⟩ := State.modifyReservedZone_eq
      (s.setRecord slot { r with state := .held (s.newHold n cred r) }) (s.newHold n cred r) ZoneRecord.reserve
    rw [hget z]
    split <;> rfl
  · unfold State.grantHold
    dsimp only
    rw [State.modifyReservedZone_frame]
    rfl

end Sys2Proof.Machine
end

section
/-! The Admission Table's conditions over every effect. -/

namespace Sys2Proof.Machine

/-! ### What effects leave of the other fields -/

theorem State.takeLaneCommand_frame (s : State) (c : LaneCommand) :
    s.takeLaneCommand c = { s with lanes := (s.takeLaneCommand c).lanes } := by
  cases c <;> rfl

theorem State.settleCommands_frame (s : State) :
    s.settleCommands = { s with lanes := s.settleCommands.lanes, commands := [] } := by
  have hfold (l : List LaneCommand) (u : State) :
      l.foldl State.takeLaneCommand u = { u with lanes := (l.foldl State.takeLaneCommand u).lanes } := by
    induction l generalizing u with
    | nil => rfl
    | cons c l ih =>
      rw [List.foldl_cons, ih, State.takeLaneCommand_frame]
  exact hfold s.commands { s with commands := [] }

theorem State.choose_frame (s : State) (item : Service) :
    s.choose item =
      { s with chosen := some item, ports := (s.choose item).ports, uplink := (s.choose item).uplink } := by
  cases item <;> rfl

theorem State.reportRecordless_frame (s : State) (kind : Kind) (source : Source) (time : VenueTime) :
    s.reportRecordless kind source time =
      { s with
        journal := (s.reportRecordless kind source time).journal
        nextSeq := (s.reportRecordless kind source time).nextSeq
        attn := (s.reportRecordless kind source time).attn } := by
  obtain ⟨-, h⟩ | ⟨-, h⟩ := s.reportRecordless_cases kind source time <;> rw [h]; rfl

/-! ### The holds that a warm reset ends -/

/-- Whatever each end of a hold keeps, the ends of all holds at a warm reset keep (R40). -/
theorem State.endAllHolds_induction {P : State → Prop}
    (hend : ∀ (s u : State) (slot : Nat) (r : Record) (h : Hold), P s → s.table.get? slot = some r →
      r.state = .held h → s.HoldEnds slot r h u → P u)
    {s : State} (hs : P s) : P s.endAllHolds := by
  have hone (s : State) (slot : Nat) (hs : P s) : P (s.endByReset slot) := by
    unfold State.endByReset
    split
    · rename_i r hr
      split
      · rename_i h hh
        exact hend s _ slot r h hs hr ((r.hold?_eq_some h).mp hh) (s.endNonCommit_holdEnds slot r h _)
      · exact hs
    · exact hs
  have hslots (l : List Nat) (s : State) (hs : P s) : P (l.foldl State.endByReset s) := by
    induction l generalizing s with
    | nil => exact hs
    | cons slot l ih => exact ih _ (hone s slot hs)
  have hlanes (l : List Lane) (s : State) (hs : P s) :
      P (l.foldl (fun s n => (s.table.slotsHeldBy n).foldl State.endByReset s) s) := by
    induction l generalizing s with
    | nil => exact hs
    | cons n l ih => exact ih _ (hslots _ s hs)
  exact hlanes lanesAscending s hs

theorem State.heldAt_mem {s : State} {n : Lane} {slot : Nat} {r : Record} {h : Hold}
    (hheld : s.heldAt n = some (slot, r, h)) :
    s.table.get? slot = some r ∧ r.state = .held h := by
  obtain ⟨-, -, -, hget, hstate⟩ := (State.heldAt_eq_some s n slot r h).mp hheld
  exact ⟨hget, hstate⟩

/-- What a warm reset does once every hold has ended (R39, R136, R180, R195, R206). -/
def State.clearAtReset (s : State) (pins : WarmPins) : State :=
  State.driveAttn
    { s with
      zones := s.zones.map fun z => { z with reserved := 0 }
      contexts := .replicate 6 .empty
      pointer := 0
      turn := .lane
      chosen := none
      restarting := false
      commands := []
      lanes := Vector.zipWith (fun lu pair => lu.warmReset pair s.evacPin) s.lanes pins.encoders
      gc := s.gc.warmReset s.evacPin
      ports := s.ports.map Port.warmReset
      uplink := { UplinkPort.reset with straps := pins.straps }
      rstAsserted := false
      warmResetDue := false }

theorem State.warmReset_eq (s : State) (pins : WarmPins) :
    s.warmReset pins = s.endAllHolds.clearAtReset pins := by
  unfold State.warmReset
  generalize s.endAllHolds = u
  rfl

/-! ### The table and its pending count -/

/-- The Admission Table's form and, where the count is asked for, the pending count. -/
abbrev State.LedgerOk (s : State) (counting : Prop) : Prop := s.TableOk ∧ (counting → s.PendingOk)

section
variable {counting : Prop} {s t : State}

theorem State.LedgerOk.of_eq (h : s.LedgerOk counting) (htable : t.table = s.table)
    (hcount : t.pendingCount = s.pendingCount) : t.LedgerOk counting := by
  simpa only [State.LedgerOk, State.TableOk, State.PendingOk, State.flagged, htable, hcount] using h

theorem State.TableOk.get?_of_mem (h : s.TableOk) {slot : Nat} {r : Record} (hmem : (slot, r) ∈ s.table) :
    s.table.get? slot = some r := (Table.get?_iff_mem h.1).mpr hmem

theorem State.TableOk.write (h : s.TableOk) {slot : Nat} {r q : Record} (hr : s.table.get? slot = some r)
    (hticket : q.ticket = r.ticket) (htable : t.table = s.table.set slot q) : t.TableOk := by
  obtain ⟨hwf, hnodup, hcheck⟩ := h
  simp only [State.TableOk, htable]
  refine ⟨Table.wf_set hwf slot q, by rwa [Table.tickets_set hr hticket], fun e he => ?_⟩
  obtain he | rfl := Table.mem_set he
  · exact hcheck e he
  · rw [hticket]; exact hcheck _ (Table.get?_mem hr)

/-- A record written under its own number, with the pending count in step. -/
theorem State.LedgerOk.write (h : s.LedgerOk counting) {slot : Nat} {r q : Record} (hr : s.table.get? slot = some r)
    (hticket : q.ticket = r.ticket) (htable : t.table = s.table.set slot q)
    (hcount : s.PendingOk → t.pendingCount + r.pendingReport.toNat = s.pendingCount + q.pendingReport.toNat) :
    t.LedgerOk counting := by
  obtain ⟨hok, hpending⟩ := h
  refine ⟨hok.write hr hticket htable, fun hcounting => ?_⟩
  have hpending := hpending hcounting
  have hcount := hcount hpending
  have htally := Table.tally_set (·.pendingReport) hr q
  rw [State.PendingOk, State.flagged_eq_tally] at hpending ⊢
  rw [htable]
  omega

theorem State.LedgerOk.report (h : s.LedgerOk counting) (slot : Nat) (q : Record) (kind : Kind) (source : Source)
    (time : VenueTime) (zone : ZoneNo) : (s.report slot q kind source time zone).LedgerOk counting := by
  obtain ⟨-, heq⟩ | ⟨-, heq⟩ := s.report_cases slot q kind source time zone <;> rw [heq]
  · exact h.of_eq rfl rfl
  · obtain ⟨r, hr, hclear, heq⟩ | ⟨-, heq⟩ := s.flagPending_cases slot <;> rw [heq]
    · refine h.write (q := { r with pendingReport := true }) hr rfl rfl fun _ => ?_
      rw [hclear]; rfl
    · exact h

theorem State.LedgerOk.rewrite (h : s.LedgerOk counting) {slot : Nat} {r q : Record} (hr : s.table.get? slot = some r)
    (hticket : q.ticket = r.ticket) (hpending : q.pendingReport = r.pendingReport) (zs : Vector ZoneRecord 16) :
    (s.rewrite slot q zs).LedgerOk counting := by
  refine h.write hr hticket rfl fun _ => ?_
  rw [hpending]; rfl

theorem State.LedgerOk.holdEnds (h : s.LedgerOk counting) {slot : Nat} {r : Record} {x : Hold}
    (hr : s.table.get? slot = some r) (hends : s.HoldEnds slot r x t) : t.LedgerOk counting := by
  cases hends with
  | silent q zs hq _ =>
    obtain ⟨hticket, -, hpending⟩ := hq.frame
    exact h.rewrite hr hticket hpending zs
  | reported q zs kind source time zone hq _ _ =>
    obtain ⟨hticket, -, hpending⟩ := hq.frame
    exact (h.rewrite hr hticket hpending zs).report ..

theorem State.LedgerOk.laneWork (h : s.LedgerOk counting) {n : Lane} (hwork : s.LaneWork n t) :
    t.LedgerOk counting := by
  cases hwork with
  | nothing => exact h
  | refuse => exact h.of_eq rfl rfl
  | poll => exact h.of_eq rfl rfl
  | cancel slot r x u hheld _ hends =>
    have hu : u.LedgerOk counting := (h.of_eq rfl rfl).holdEnds (s := s.setLane n _) (State.heldAt_mem hheld).1 hends
    exact hu.of_eq rfl rfl
  | grant cred slot r _ hdecision =>
    obtain ⟨-, -, ⟨_, -, hlookup⟩, -⟩ := State.checksOfRecord_of_grant hdecision
    have hr := h.1.get?_of_mem (Table.lookup_mem hlookup).1
    obtain ⟨zs, -, heq⟩ := s.grantHold_frame n cred slot r
    rw [heq]
    exact (h.rewrite (q := { r with state := .held (s.newHold n cred r) }) hr rfl rfl zs).of_eq rfl rfl

theorem State.LedgerOk.uplinkWork (h : s.LedgerOk counting) (hwork : s.UplinkWork t) : t.LedgerOk counting := by
  cases hwork with
  | note slot r q zs hmem hq _ =>
    obtain ⟨hticket, -, hpending, -⟩ := hq.frame
    exact h.rewrite (h.1.get?_of_mem hmem) hticket hpending zs
  | noteHeld slot r q x zs hmem hq _ _ =>
    obtain ⟨hticket, -, hpending, -⟩ := hq.frame
    exact (h.rewrite (h.1.get?_of_mem hmem) hticket hpending zs).of_eq rfl rfl
  | double => exact h.report ..
  | doubleHeld slot r x zs source time zone _ _ _ =>
    have hzones : State.LedgerOk { s with zones := zs } counting := h.of_eq rfl rfl
    exact (hzones.report slot r .double source time zone).of_eq rfl rfl
  | nothing => exact h
  | _ => exact h.of_eq rfl rfl

theorem State.LedgerOk.backfill (h : s.LedgerOk counting) {slot : Nat} {r : Record}
    (hfirst : s.table.firstPending = some (slot, r)) (kind : Kind) (source : Source) (time : VenueTime)
    (fields : Option RecordFields) : ((s.append kind source time fields).clearPending slot r).LedgerOk counting := by
  have hmem := List.mem_of_find?_eq_some hfirst
  have hflag : r.pendingReport = true := List.find?_some (p := fun e : Nat × Record => e.2.pendingReport) hfirst
  have hr := h.1.get?_of_mem hmem
  refine h.write (q := { r with pendingReport := false }) hr rfl rfl fun hpending => ?_
  have htally := Table.tally_set (·.pendingReport) hr { r with pendingReport := false }
  have hcount : ((s.append kind source time fields).clearPending slot r).pendingCount = s.pendingCount - 1 := rfl
  rw [State.PendingOk, State.flagged_eq_tally] at hpending
  rw [hcount, hflag, Bool.toNat_true, Bool.toNat_false]
  simp only [hflag, Bool.toNat_true, Bool.toNat_false] at htally
  omega

theorem State.LedgerOk.warmReset (h : s.LedgerOk counting) (pins : WarmPins) :
    (s.warmReset pins).LedgerOk counting := by
  have hall : s.endAllHolds.LedgerOk counting :=
    State.endAllHolds_induction (fun _ _ _ _ _ hs hr _ hends => State.LedgerOk.holdEnds hs hr hends) h
  rw [State.warmReset_eq]
  generalize s.endAllHolds = u at hall
  exact hall.of_eq rfl rfl

/-- Every effect keeps the table's form and the pending count. -/
theorem State.Effect.ledgerOk (he : s.Effect t) (h : s.LedgerOk counting) : t.LedgerOk counting := by
  cases he with
  | command c rest _ _ =>
    rw [State.takeLaneCommand_frame]
    exact h.of_eq rfl rfl
  | settleCommands =>
    rw [State.settleCommands_frame]
    exact h.of_eq rfl rfl
  | choose item =>
    rw [State.choose_frame]
    exact h.of_eq rfl rfl
  | warmReset pins => exact h.warmReset pins
  | endHold n slot r x howEnded u _ _ hheld hends =>
    exact (h.holdEnds (State.heldAt_mem hheld).1 hends).of_eq rfl rfl
  | forcedReport =>
    rw [State.reportRecordless_frame]
    exact h.of_eq rfl rfl
  | gateEvent =>
    rw [State.reportRecordless_frame]
    exact h.of_eq rfl rfl
  | backfill slot r _ hfirst _ => exact (h.backfill hfirst ..).of_eq rfl rfl
  | lane n q u reply _ _ hwork => exact (h.laneWork hwork).of_eq rfl rfl
  | uplink _ ht =>
    obtain ⟨r, u, a, -, -, hwork, -⟩ := ht
    exact (h.uplinkWork hwork).of_eq rfl rfl
  | _ => exact h.of_eq rfl rfl

end

end Sys2Proof.Machine
end

section
/-! Every record's consistency, and what a record keeps, over every effect; and the three requests that load, drop and
clear tickets. -/

namespace Sys2Proof.Machine

section
variable {s t : State}

/-! ### Every record is consistent -/

theorem State.RecordsOk.of_eq (h : s.RecordsOk) (htable : t.table = s.table) : t.RecordsOk := by
  simpa only [State.RecordsOk, htable] using h

theorem State.RecordsOk.write (h : s.RecordsOk) {slot : Nat} {q : Record} (hq : q.Ok)
    (htable : t.table = s.table.set slot q) : t.RecordsOk := by
  intro e he
  rw [htable] at he
  obtain he | rfl := Table.mem_set he
  · exact h e he
  · exact hq

theorem State.RecordsOk.get (h : s.RecordsOk) {slot : Nat} {r : Record} (hr : s.table.get? slot = some r) :
    r.Ok := h _ (Table.get?_mem hr)

/-- Whether a record owes a report is no matter for its consistency. -/
theorem Record.Ok.pendingReport {r : Record} (h : r.Ok) (b : Bool) : Record.Ok { r with pendingReport := b } := h

theorem State.RecordsOk.report (h : s.RecordsOk) (slot : Nat) (q : Record) (kind : Kind) (source : Source)
    (time : VenueTime) (zone : ZoneNo) : (s.report slot q kind source time zone).RecordsOk := by
  obtain ⟨-, heq⟩ | ⟨-, heq⟩ := s.report_cases slot q kind source time zone <;> rw [heq]
  · exact h.of_eq rfl
  · obtain ⟨r, hr, -, heq⟩ | ⟨-, heq⟩ := s.flagPending_cases slot <;> rw [heq]
    · exact h.write ((h.get hr).pendingReport true) rfl
    · exact h

theorem State.RecordsOk.holdEnds (h : s.RecordsOk) {slot : Nat} {r : Record} {x : Hold}
    (hr : s.table.get? slot = some r) (hstate : r.state = .held x) (hends : s.HoldEnds slot r x t) :
    t.RecordsOk := by
  have hwritten {q : Record} (hq : r.Ended x q) (zs : Vector ZoneRecord 16) : (s.rewrite slot q zs).RecordsOk :=
    h.write (hq.ok hstate (h.get hr)) rfl
  cases hends with
  | silent q zs hq _ => exact hwritten hq zs
  | reported q zs kind source time zone hq _ _ => exact (hwritten hq zs).report slot q kind source time zone

theorem State.RecordsOk.laneWork (h : s.RecordsOk) {n : Lane} (hwork : s.LaneWork n t) : t.RecordsOk := by
  cases hwork with
  | nothing => exact h
  | refuse => exact h.of_eq rfl
  | poll => exact h.of_eq rfl
  | cancel slot r x u hheld _ hends =>
    obtain ⟨hr, hstate⟩ := State.heldAt_mem hheld
    have hrelocked : (s.setLane n (s.lanes.get n).relock).RecordsOk := h.of_eq rfl
    exact (hrelocked.holdEnds hr hstate hends).of_eq rfl
  | grant cred slot r huid hdecision =>
    obtain ⟨-, -, ⟨_, -, hlookup⟩, -⟩ := State.checksOfRecord_of_grant hdecision
    have hok : r.Ok := h _ (Table.lookup_mem hlookup).1
    obtain ⟨hprior, hhold, -⟩ := State.newHold_of_grant hdecision huid
    obtain ⟨zs, -, heq⟩ := s.grantHold_frame n cred slot r
    rw [heq]
    exact h.write (hok.hold (State.unheld_of_grant hdecision) hprior hhold) rfl

theorem State.RecordsOk.uplinkWork (h : s.RecordsOk) (hwork : s.UplinkWork t) : t.RecordsOk := by
  cases hwork with
  | note slot r q zs hmem hq _ => exact h.write (hq.ok (h _ hmem)) rfl
  | noteHeld slot r q x zs hmem hq _ _ => exact h.write (hq.ok (h _ hmem)) rfl
  | double slot r source time zone => exact h.report slot r .double source time zone
  | doubleHeld slot r x zs source time zone _ _ _ =>
    have hzones : State.RecordsOk { s with zones := zs } := h.of_eq rfl
    exact (hzones.report slot r .double source time zone).of_eq rfl
  | nothing => exact h
  | _ => exact h.of_eq rfl

theorem State.RecordsOk.warmReset (h : s.RecordsOk) (pins : WarmPins) : (s.warmReset pins).RecordsOk := by
  have hall : s.endAllHolds.RecordsOk :=
    State.endAllHolds_induction (fun _ _ _ _ _ hs hr hstate hends => State.RecordsOk.holdEnds hs hr hstate hends) h
  rw [State.warmReset_eq]
  generalize s.endAllHolds = u at hall
  exact hall.of_eq rfl

/-- Every effect keeps every record consistent. -/
theorem State.Effect.recordsOk (he : s.Effect t) (h : s.RecordsOk) : t.RecordsOk := by
  cases he with
  | command c rest _ _ =>
    rw [State.takeLaneCommand_frame]
    exact h.of_eq rfl
  | settleCommands =>
    rw [State.settleCommands_frame]
    exact h.of_eq rfl
  | choose item =>
    rw [State.choose_frame]
    exact h.of_eq rfl
  | warmReset pins => exact h.warmReset pins
  | endHold n slot r x howEnded u _ _ hheld hends =>
    obtain ⟨hr, hstate⟩ := State.heldAt_mem hheld
    exact (h.holdEnds hr hstate hends).of_eq rfl
  | forcedReport =>
    rw [State.reportRecordless_frame]
    exact h.of_eq rfl
  | gateEvent =>
    rw [State.reportRecordless_frame]
    exact h.of_eq rfl
  | backfill slot r _ hfirst _ =>
    have hok : r.Ok := h _ (List.mem_of_find?_eq_some hfirst)
    exact h.write (hok.pendingReport false) rfl
  | lane n q u reply _ _ hwork => exact (h.laneWork hwork).of_eq rfl
  | uplink _ ht =>
    obtain ⟨r, u, a, -, -, hwork, -⟩ := ht
    exact (h.uplinkWork hwork).of_eq rfl
  | _ => exact h.of_eq rfl

/-! ### What a record keeps -/

/-- What every effect keeps of a record: number, class, REVOKED and a binding; and its entries used never fall. -/
structure Record.KeptAs (r q : Record) : Prop where
  ticket : q.ticket = r.ticket
  cls : q.cls = r.cls
  entries : r.entries ≤ q.entries
  revoked : r.state = .revoked → q.state = .revoked
  binding : r.binding ≠ none → q.binding = r.binding

theorem Record.KeptAs.refl (r : Record) : r.KeptAs r := ⟨rfl, rfl, le_refl _, id, fun _ => rfl⟩

theorem Record.KeptAs.trans {r q p : Record} (h : r.KeptAs q) (h' : q.KeptAs p) : r.KeptAs p where
  ticket := h'.ticket.trans h.ticket
  cls := h'.cls.trans h.cls
  entries := h.entries.trans h'.entries
  revoked := fun hr => h'.revoked (h.revoked hr)
  binding := fun hr => (h'.binding (by rwa [h.binding hr])).trans (h.binding hr)

theorem Record.Ended.keptAs {r q : Record} {h : Hold} (he : r.Ended h q) (hstate : r.state = .held h) :
    r.KeptAs q := by
  obtain ⟨hticket, hcls, -⟩ := he.frame
  have hnot : r.state ≠ .revoked := by rw [hstate]; exact RecordState.noConfusion
  refine ⟨hticket, hcls, ?_, fun hr => absurd hr hnot, fun hr => ?_⟩
  · cases he with
    | withoutPassage =>
      unfold Record.afterNonCommit
      split
      · exact le_refl _
      · exact le_raiseEntries _
      · exact le_refl _
      · exact le_refl _
    | entry =>
      simp only [Record.afterEntryCommit]
      split
      · exact (le_raiseEntries _).trans (le_raiseEntries _)
      · exact le_raiseEntries _
    | exit => exact le_refl _
  · cases he with
    | withoutPassage => rw [(r.afterNonCommit_frame h).2.2.1]
    | entry c capture =>
      obtain hb | ⟨hb, -⟩ := r.bindingAfterEntry_cases h c
      · exact hb
      · exact absurd hb hr
    | exit => rfl

theorem Record.Noted.keptAs {r q : Record} (hn : r.Noted q) : r.KeptAs q := by
  obtain ⟨hticket, hcls, -, hbinding⟩ := hn.frame
  refine ⟨hticket, hcls, ?_, fun hr => ?_, fun _ => hbinding⟩
  · cases hn with
    | admitted => exact le_raiseEntries _
    | _ => exact le_refl _
  · cases hn with
    | admitted x _ hst => rw [hr] at hst; obtain hst | hst := hst <;> cases hst
    | exited c x _ hst => rw [hr] at hst; cases hst
    | revoked => rfl
    | marked h m _ hst _ => rw [hr] at hst; cases hst
    | revokeMarked h hst => rw [hr] at hst; cases hst

/-- Every occupied slot stays occupied, by the record as it is kept (R19, R35). -/
def State.KeepsRecords (s t : State) : Prop :=
  ∀ (slot : Nat) (r : Record), s.table.get? slot = some r → ∃ q, t.table.get? slot = some q ∧ r.KeptAs q

theorem State.KeepsRecords.of_eq (h : t.table = s.table) : s.KeepsRecords t := by
  intro slot r hr
  exact ⟨r, by rwa [h], .refl r⟩

theorem State.KeepsRecords.trans {u : State} (h : s.KeepsRecords t) (h' : t.KeepsRecords u) :
    s.KeepsRecords u := by
  intro slot r hr
  obtain ⟨q, hq, hrq⟩ := h slot r hr
  obtain ⟨p, hp, hqp⟩ := h' slot q hq
  exact ⟨p, hp, hrq.trans hqp⟩

theorem State.KeepsRecords.write {slot : Nat} {r q : Record} (hr : s.table.get? slot = some r)
    (hq : r.KeptAs q) (htable : t.table = s.table.set slot q) : s.KeepsRecords t := by
  intro k p hp
  rw [htable, Table.get?_set]
  split
  · rename_i hk
    rw [hk] at hr
    cases hr.symm.trans hp
    exact ⟨q, by rw [hk, hp]; rfl, hq⟩
  · exact ⟨p, hp, .refl p⟩

theorem State.KeepsRecords.report (s : State) (slot : Nat) (q : Record) (kind : Kind) (source : Source)
    (time : VenueTime) (zone : ZoneNo) : s.KeepsRecords (s.report slot q kind source time zone) := by
  obtain ⟨-, heq⟩ | ⟨-, heq⟩ := s.report_cases slot q kind source time zone <;> rw [heq]
  · exact .of_eq rfl
  · obtain ⟨r, hr, -, heq⟩ | ⟨-, heq⟩ := s.flagPending_cases slot <;> rw [heq]
    · exact .write (q := { r with pendingReport := true }) hr ⟨rfl, rfl, le_refl _, id, fun _ => rfl⟩ rfl
    · exact .of_eq rfl

theorem State.HoldEnds.keepsRecords {slot : Nat} {r : Record} {x : Hold} (hends : s.HoldEnds slot r x t)
    (hr : s.table.get? slot = some r) (hstate : r.state = .held x) : s.KeepsRecords t := by
  have hwritten {q : Record} (hq : r.Ended x q) (zs : Vector ZoneRecord 16) :
      s.KeepsRecords (s.rewrite slot q zs) := .write hr (hq.keptAs hstate) rfl
  cases hends with
  | silent q zs hq _ => exact hwritten hq zs
  | reported q zs kind source time zone hq _ _ => exact (hwritten hq zs).trans (.report _ slot q kind source time zone)

theorem State.LaneWork.keepsRecords {n : Lane} (hwork : s.LaneWork n t) (h : s.TableOk) : s.KeepsRecords t := by
  cases hwork with
  | nothing => exact .of_eq rfl
  | refuse => exact .of_eq rfl
  | poll => exact .of_eq rfl
  | cancel slot r x u hheld _ hends =>
    obtain ⟨hr, hstate⟩ := State.heldAt_mem hheld
    have hrelocked : s.KeepsRecords (s.setLane n (s.lanes.get n).relock) := .of_eq rfl
    exact hrelocked.trans ((hends.keepsRecords hr hstate).trans (.of_eq rfl))
  | grant cred slot r huid hdecision =>
    obtain ⟨-, -, ⟨_, -, hlookup⟩, -⟩ := State.checksOfRecord_of_grant hdecision
    have hr := h.get?_of_mem (Table.lookup_mem hlookup).1
    obtain ⟨zs, -, heq⟩ := s.grantHold_frame n cred slot r
    rw [heq]
    refine .write (q := { r with state := .held (s.newHold n cred r) }) hr
      ⟨rfl, rfl, le_refl _, fun hrevoked => ?_, fun _ => rfl⟩ rfl
    have hstate := State.state_of_grant hdecision
    simp [hrevoked] at hstate

theorem State.UplinkWork.keepsRecords (hwork : s.UplinkWork t) (h : s.TableOk) : s.KeepsRecords t := by
  cases hwork with
  | note slot r q zs hmem hq _ => exact .write (h.get?_of_mem hmem) hq.keptAs rfl
  | noteHeld slot r q x zs hmem hq _ _ => exact .write (h.get?_of_mem hmem) hq.keptAs rfl
  | double slot r source time zone => exact .report s slot r .double source time zone
  | doubleHeld slot r x zs source time zone _ _ _ =>
    have hzones : s.KeepsRecords { s with zones := zs } := .of_eq rfl
    exact hzones.trans ((State.KeepsRecords.report _ slot r .double source time zone).trans (.of_eq rfl))
  | _ => exact .of_eq rfl

theorem State.warmReset_keepsRecords (s : State) (pins : WarmPins) : s.KeepsRecords (s.warmReset pins) := by
  have hall : s.KeepsRecords s.endAllHolds :=
    State.endAllHolds_induction (P := s.KeepsRecords)
      (fun _ _ _ _ _ hs hr hstate hends => hs.trans (hends.keepsRecords hr hstate)) (.of_eq rfl)
  rw [State.warmReset_eq]
  generalize s.endAllHolds = u at hall
  exact hall.trans (.of_eq rfl)

/-- Every effect keeps the records in their slots. -/
theorem State.Effect.keepsRecords (he : s.Effect t) (h : s.TableOk) : s.KeepsRecords t := by
  cases he with
  | command c rest _ _ =>
    rw [State.takeLaneCommand_frame]
    exact .of_eq rfl
  | settleCommands =>
    rw [State.settleCommands_frame]
    exact .of_eq rfl
  | choose item =>
    rw [State.choose_frame]
    exact .of_eq rfl
  | warmReset pins => exact s.warmReset_keepsRecords pins
  | endHold n slot r x howEnded u _ _ hheld hends =>
    obtain ⟨hr, hstate⟩ := State.heldAt_mem hheld
    exact (hends.keepsRecords hr hstate).trans (.of_eq rfl)
  | forcedReport =>
    rw [State.reportRecordless_frame]
    exact .of_eq rfl
  | gateEvent =>
    rw [State.reportRecordless_frame]
    exact .of_eq rfl
  | backfill slot r _ hfirst _ =>
    have hr := h.get?_of_mem (List.mem_of_find?_eq_some hfirst)
    exact .write (q := { r with pendingReport := false }) hr ⟨rfl, rfl, le_refl _, id, fun _ => rfl⟩ rfl
  | lane n q u reply _ _ hwork => exact (hwork.keepsRecords h).trans (.of_eq rfl)
  | uplink _ ht =>
    obtain ⟨r, u, a, -, -, hwork, -⟩ := ht
    exact (hwork.keepsRecords h).trans (.of_eq rfl)
  | _ => exact .of_eq rfl

theorem State.Effects.keepsRecords (he : s.Effects t) (h : s.TableOk) : t.TableOk ∧ s.KeepsRecords t := by
  induction he with
  | refl => exact ⟨h, .of_eq rfl⟩
  | tail _ hstep ih =>
    obtain ⟨hok, hkept⟩ := ih
    obtain ⟨hok', -⟩ := hstep.ledgerOk (counting := False) ⟨hok, False.elim⟩
    exact ⟨hok', hkept.trans (hstep.keepsRecords hok)⟩

end

/-! ### LOAD_TICKET, DROP_TICKET and CLEAR_TABLE -/

theorem catalogue_loadTicket {type : Byte} {n : Nat} (h : catalogue type = some (.loadTicket, n)) : n = 30 := by
  unfold catalogue at h
  split at h <;> simp_all

/-- A LOAD_TICKET carries 30 bytes (R207). -/
theorem UplinkRequest.length_of_loadTicket {r : UplinkRequest} (h : r.kind = .loadTicket) :
    r.payload.length = 30 := by
  unfold UplinkRequest.kind at h
  split at h
  · rename_i hrow
    split at h
    · rename_i hlength
      subst h
      rw [hlength.1, catalogue_loadTicket hrow]
    · cases h
  · cases h

theorem sourceOf?_ok {kind number : Byte} {o : Source} (h : sourceOf? kind number = some o) : o ≠ .gate 0 := by
  unfold sourceOf? at h
  split at h
  · obtain ⟨n, -, rfl⟩ := Option.map_eq_some_iff.mp h
    exact Source.noConfusion
  · split at h
    · obtain ⟨g, hg, rfl⟩ := Option.map_eq_some_iff.mp h
      exact fun h0 => gateIdOf?_ne_zero hg (Source.gate.inj h0)
    · cases h

theorem passageOf?_ok {p : List Byte} {lp : Option Passage} (h : passageOf? p = some lp) :
    ∀ x ∈ lp, x.source ≠ .gate 0 := by
  unfold passageOf? at h
  split at h
  · obtain ⟨o, ho, rfl⟩ := Option.map_eq_some_iff.mp h
    intro x hx
    cases hx
    exact sourceOf?_ok ho
  · cases h
    simp

/-- In a payload of LOAD_TICKET's length a binding has all its bytes (R208). -/
theorem bindingOf?_ok {p : List Byte} (hp : p.length = 30) {b : Option Uid} (h : bindingOf? p = some b) :
    ∀ u ∈ b, uidOk u := by
  unfold bindingOf? at h
  split at h
  · dsimp only at h
    split at h
    · rename_i hn
      cases h
      intro u hu
      cases hu
      simp only [uidOk, bytesAt, List.length_take, List.length_drop, hp]
      omega
    · cases h
  · cases h
    simp

theorem loadableState?_unheld {b : Byte} {st : RecordState} (h : loadableState? b = some st) (x : Hold) :
    st ≠ .held x := by
  unfold loadableState? at h
  split at h <;> cases h <;> exact RecordState.noConfusion

/-- A record that passes the tests of R32 may be loaded. -/
theorem recordOf?_loadable {t : Ticket} {p : List Byte} {r : Record} (hp : p.length = 30)
    (hticket : ticketWellFormed t = true) (h : recordOf? t p = some r) : r.Loadable ∧ r.ticket = t := by
  unfold recordOf? at h
  split at h
  · rename_i c st e lp b hc hst he hlp hb
    split at h
    · rename_i htests
      obtain ⟨hentries, hvalid⟩ := htests
      cases h
      have hunheld := loadableState?_unheld hst
      refine ⟨⟨?_, Record.hold?_of_state hunheld, rfl, hticket⟩, rfl⟩
      refine .of_unheld (Record.hold?_of_state hunheld) ?_ (bindingOf?_ok hp hb) (passageOf?_ok hlp)
      cases st with
      | held x => exact absurd rfl (hunheld x)
      | valid =>
        have hnone : lp = none := by simpa using hvalid
        exact ⟨Fin.ext (by simpa [entriesConsistent] using hentries), hnone⟩
      | revoked => exact trivial
      | _ => simpa [entriesConsistent, entriesAgree, RecordState.name] using hentries
    · cases h
  · cases h

theorem Record.isHeld_eq_false {r : Record} (h : ¬r.isHeld = true) : r.hold? = none := by
  simpa [Record.isHeld] using h

theorem loadTicketService_works (s : State) {p : List Byte} (hp : p.length = 30) :
    ServiceWorks State.LoadWork s (loadTicketService s p) := by
  unfold loadTicketService
  split
  · exact works_of_refuse .nothing (by decide)
  · split
    · exact works_of_refuse .nothing (by decide)
    · rename_i t _ hticket
      split
      · exact works_of_refuse .nothing (by decide)
      · rename_i r hrecord
        obtain ⟨hloadable, rfl⟩ := recordOf?_loadable hp (by simpa using hticket) hrecord
        split
        · rename_i hnew
          split
          · exact works_of_refuse .nothing (by decide)
          · rename_i hroom; exact works_of_ok (.insert r hloadable hnew (by omega))
        · rename_i slot old hfound
          split
          · exact works_of_refuse .nothing (by decide)
          · rename_i hhold
            split
            · exact works_of_refuse .nothing (by decide)
            · rename_i hpending
              exact works_of_ok
                (.replace slot old r hloadable hfound (Record.isHeld_eq_false hhold) (by simpa using hpending))

theorem dropTicketService_works (s : State) (p : List Byte) :
    ServiceWorks State.TableWork s (dropTicketService s p) := by
  unfold dropTicketService
  split
  · exact works_of_refuse .nothing (by decide)
  · split
    · exact works_of_refuse .nothing (by decide)
    · rename_i slot old hfound
      split
      · exact works_of_refuse .nothing (by decide)
      · rename_i hhold
        split
        · exact works_of_refuse .nothing (by decide)
        · rename_i hpending
          obtain ⟨-, hticket⟩ := Table.lookup_mem hfound
          exact works_of_ok
            (.drop slot old (by rwa [hticket]) (Record.isHeld_eq_false hhold) (by simpa using hpending))

theorem clearTableService_works (s : State) (p : List Byte) :
    ServiceWorks State.TableWork s (clearTableService s p) := by
  unfold clearTableService
  split
  · exact works_of_refuse .nothing (by decide)
  · split
    · exact works_of_refuse .nothing (by decide)
    · rename_i hhold
      refine works_of_ok (.clear fun e he => Record.isHeld_eq_false fun hheld => hhold ?_)
      exact List.any_eq_true.mpr ⟨e, he, hheld⟩

theorem State.serveUplink_answered {s t : State} {work : State → State → Prop} {k : UplinkKind}
    {serve : State → List Byte → State × Answer}
    (hserve : ∀ r : UplinkRequest, r.kind = k → ServiceWorks work s (serve s r.payload))
    (ht : (.next (s.serveUplink k serve) : Host.Outcome State Fault Refusal) = .next t) :
    t = s ∨ s.Answered (work s) t := by
  obtain rfl := next_inj ht
  obtain ⟨r, hserving, hslot, hkind, heq⟩ | heq := s.serveUplink_cases k serve
  · obtain ⟨hwork, hstatus⟩ := hserve r hkind
    rw [heq]
    exact .inr (.intro r _ _ hserving hslot hwork hstatus)
  · exact .inl heq

theorem exec_loadWork {s t : State} (h : exec .loadTicket s = .next t) : t = s ∨ s.Answered s.LoadWork t :=
  State.serveUplink_answered (fun r hr => loadTicketService_works s (r.length_of_loadTicket hr)) h

theorem State.Answered.mono {s t : State} {work work' : State → Prop} (h : s.Answered work t)
    (hwork : ∀ u, work u → work' u) : s.Answered work' t := by
  obtain ⟨r, u, a, hserving, hslot, hu, hstatus⟩ := h
  exact .intro r u a hserving hslot (hwork u hu) hstatus

/-- LOAD_TICKET, DROP_TICKET and CLEAR_TABLE are answered, or change nothing. -/
theorem exec_tableWork {c : Instr} {s t : State} (hc : c = .loadTicket ∨ c = .dropTicket ∨ c = .clearTable)
    (h : exec c s = .next t) : t = s ∨ s.Answered s.TableWork t := by
  obtain rfl | rfl | rfl := hc
  · exact (exec_loadWork h).imp_right fun ht => ht.mono fun _ => .load _
  · exact State.serveUplink_answered (fun r _ => dropTicketService_works s r.payload) h
  · exact State.serveUplink_answered (fun r _ => clearTableService_works s r.payload) h

section
variable {s t : State}

theorem State.TableOk.insert (h : s.TableOk) {r : Record} (hr : r.Loadable)
    (hnew : s.table.lookup r.ticket = none) (hroom : s.table.length < Config.tableCapacity)
    (htable : t.table = s.table.insert s.table.lowestFree r) : t.TableOk := by
  obtain ⟨hwf, hnodup, hcheck⟩ := h
  obtain ⟨hfree, -, hlow⟩ := Table.lowestFree_spec hwf
  simp only [State.TableOk, htable]
  refine ⟨Table.wf_insert hwf (by omega) hfree r, ?_, fun e he => ?_⟩
  · rw [(Table.tickets_insert _ _ _).nodup_iff, List.nodup_cons]
    refine ⟨fun hmem => ?_, hnodup⟩
    obtain ⟨e, he, hticket⟩ := List.mem_map.mp hmem
    exact Table.lookup_eq_none.mp hnew e he hticket
  · obtain he | rfl := Table.mem_insert he
    · exact hcheck e he
    · exact hr.ticket

theorem State.TableOk.erase (h : s.TableOk) {slot : Nat} (htable : t.table = s.table.erase slot) :
    t.TableOk := by
  obtain ⟨hwf, hnodup, hcheck⟩ := h
  have hsub := s.table.erase_sublist slot
  simp only [State.TableOk, htable]
  exact ⟨Table.wf_erase hwf slot, (hsub.map _).nodup hnodup, fun e he => hcheck e (hsub.subset he)⟩

theorem State.LedgerOk.loadWork (h : s.LedgerOk True) (hwork : s.LoadWork t) : t.LedgerOk True := by
  obtain ⟨hok, hcount⟩ := id h
  have hpending : s.pendingCount = Table.tally (·.pendingReport) s.table := hcount trivial
  cases hwork with
  | nothing => exact h
  | insert r hr hnew hroom =>
    refine ⟨hok.insert hr hnew hroom rfl, fun _ => hpending.trans ?_⟩
    rw [State.flagged_eq_tally, Table.tally_insert, hr.pendingReport]
    rfl
  | replace slot old r hr hfound _ hclear =>
    obtain ⟨hmem, hticket⟩ := Table.lookup_mem hfound
    refine h.write (hok.get?_of_mem hmem) hticket.symm rfl fun _ => ?_
    rw [hr.pendingReport, hclear]
    rfl

theorem State.LedgerOk.tableWork (h : s.LedgerOk True) (hwork : s.TableWork t) : t.LedgerOk True := by
  obtain ⟨hok, hcount⟩ := id h
  have hpending : s.pendingCount = Table.tally (·.pendingReport) s.table := hcount trivial
  cases hwork with
  | nothing => exact h
  | load _ hwork => exact h.loadWork hwork
  | drop slot old hfound _ hclear =>
    have hget := hok.get?_of_mem (Table.lookup_mem hfound).1
    refine ⟨hok.erase rfl, fun _ => hpending.trans ?_⟩
    have htally := Table.tally_erase (·.pendingReport) hget
    rw [hclear] at htally
    exact htally.symm
  | clear => exact ⟨⟨rfl, List.nodup_nil, fun e he => nomatch he⟩, fun _ => rfl⟩

theorem State.RecordsOk.tableWork (h : s.RecordsOk) (hwork : s.TableWork t) : t.RecordsOk := by
  cases hwork with
  | nothing => exact h
  | load _ hwork =>
    cases hwork with
    | nothing => exact h
    | insert r hr _ _ =>
      intro e he
      obtain he | rfl := Table.mem_insert he
      · exact h e he
      · exact hr.ok
    | replace slot old r hr _ _ _ => exact h.write hr.ok rfl
  | drop => exact fun e he => h e ((Table.erase_sublist _ _).subset he)
  | clear => exact fun e he => nomatch he

/-- LOAD_TICKET keeps every other record, and writes a slot under the number that stands in it (R33, R34). -/
theorem State.LoadWork.keepsTickets (hwork : s.LoadWork t) (h : s.TableOk) {slot : Nat} {r : Record}
    (hr : s.table.get? slot = some r) : ∃ q, t.table.get? slot = some q ∧ q.ticket = r.ticket := by
  cases hwork with
  | nothing => exact ⟨r, hr, rfl⟩
  | insert q _ _ _ =>
    obtain ⟨hfree, -, -⟩ := Table.lowestFree_spec h.1
    refine ⟨r, ?_, rfl⟩
    rw [Table.get?_insert h.1 hfree]
    split
    · rename_i hslot; rw [← hslot, hfree] at hr; cases hr
    · exact hr
  | replace k old q _ hfound _ _ =>
    obtain ⟨hmem, hticket⟩ := Table.lookup_mem hfound
    rw [State.setRecord_table, Table.get?_set]
    split
    · rename_i hslot
      rw [← hslot, h.get?_of_mem hmem] at hr
      cases hr
      exact ⟨q, by rw [h.get?_of_mem hmem]; rfl, hticket.symm⟩
    · exact ⟨r, hr, rfl⟩

end

/-! ### Every command -/

theorem State.Effects.induction {P : State → Prop} (heffect : ∀ s t, P s → s.Effect t → P t) {s t : State}
    (hs : P s) (h : s.Effects t) : P t := by
  induction h with
  | refl => exact hs
  | tail _ hstep ih => exact heffect _ _ ih hstep

/-- What every effect, the three table requests and a power-on reset keep, every command keeps. -/
theorem exec_induction {P : State → Prop} (heffect : ∀ s t, P s → s.Effect t → P t)
    (htable : ∀ s t, P s → s.Answered s.TableWork t → P t)
    (hpower : ∀ (s : State) (pins : PowerPins), P s → P { State.powerOn pins with pending := s.pending })
    {c : Instr} {s t : State} (hs : P s) (h : exec c s = .next t) : P t := by
  have requested (hc : c = .loadTicket ∨ c = .dropTicket ∨ c = .clearTable) : P t := by
    obtain rfl | ht := exec_tableWork hc h
    · exact hs
    · exact htable s t hs ht
  by_cases hload : c = .loadTicket
  · exact requested (.inl hload)
  by_cases hdrop : c = .dropTicket
  · exact requested (.inr (.inl hdrop))
  by_cases hclear : c = .clearTable
  · exact requested (.inr (.inr hclear))
  by_cases hpins : ∃ pins, c = .powerOnReset pins
  · obtain ⟨pins, rfl⟩ := hpins
    obtain rfl := next_inj h
    exact hpower s pins hs
  · exact State.Effects.induction heffect hs
      (exec_effects (fun pins hc => hpins ⟨pins, hc⟩) hload hdrop hclear h)

/-- What every command keeps, and the queue does not matter for, every step keeps. -/
theorem step_induction {P : State → Prop} (hqueue : ∀ (s : State) (l : List Instr), P s → P { s with pending := l })
    (hexec : ∀ (c : Instr) (s t : State), P s → exec c s = .next t → P t) {s t : State} (hs : P s)
    (h : step s = .next t) : P t := by
  unfold step at h
  split at h
  · obtain rfl := next_inj h
    exact hs
  · exact hexec _ _ _ (hqueue s _ hs) h

end Sys2Proof.Machine

open Sys2Proof Sys2Proof.Machine

/-- Settles O10: every effect writes records under their own numbers with the pending count in step, and LOAD_TICKET
inserts under a new number. -/
theorem stepKeepsTheTable : Obligations.StepKeepsTheTable := by
  intro s t htable hpending hstep
  have hledger : t.LedgerOk True := by
    refine step_induction (P := fun s => s.LedgerOk True) (fun _ _ h => h.of_eq rfl rfl) (fun c s t h hexec => ?_)
      ⟨htable, fun _ => hpending⟩ hstep
    refine exec_induction (fun _ _ h he => he.ledgerOk h) (fun s t h ht => ?_)
      (fun s pins _ => ⟨⟨rfl, List.nodup_nil, fun e he => nomatch he⟩, fun _ => rfl⟩) h hexec
    obtain ⟨r, u, a, -, -, hwork, -⟩ := ht
    exact (h.tableWork hwork).of_eq rfl rfl
  exact ⟨hledger.1, hledger.2 trivial⟩

/-- Settles O11: the record that an effect writes is consistent when the one it stands for was. -/
theorem stepKeepsRecordsConsistent : Obligations.StepKeepsRecordsConsistent := by
  intro s t hrecords hstep
  refine step_induction (P := State.RecordsOk) (fun _ _ h => h.of_eq rfl) (fun c s t h hexec => ?_) hrecords hstep
  refine exec_induction (fun _ _ h he => he.recordsOk h) (fun s t h ht => ?_) (fun s pins _ e he => nomatch he) h hexec
  obtain ⟨r, u, a, -, -, hwork, -⟩ := ht
  exact (h.tableWork hwork).of_eq rfl

/-- Settles O20: along the effects of a command a record keeps its number, its class, REVOKED and its binding, and its
entries never fall; LOAD_TICKET writes a slot under the number that stands in it. -/
theorem recordsStayInTheirSlots : Obligations.RecordsStayInTheirSlots := by
  intro c s t slot r htable hpower hdrop hclear hexec hr
  by_cases hload : c = .loadTicket
  · subst hload
    obtain rfl | ⟨q, u, a, -, -, hwork, -⟩ := exec_loadWork hexec
    · exact ⟨r, hr, rfl, fun h => absurd rfl h⟩
    · obtain ⟨q, hq, hticket⟩ := hwork.keepsTickets htable hr
      exact ⟨q, hq, hticket, fun h => absurd rfl h⟩
  · obtain ⟨-, hkept⟩ := (exec_effects hpower hload hdrop hclear hexec).keepsRecords htable
    obtain ⟨q, hq, hrq⟩ := hkept slot r hr
    exact ⟨q, hq, hrq.ticket, fun _ => ⟨hrq.cls, hrq.entries, hrq.revoked, hrq.binding⟩⟩
end

section
/-! The table requests: LOAD_TICKET, DROP_TICKET, QUERY_TICKET and CLEAR_TABLE (R31 to R37). -/

namespace Sys2Proof.Machine

/-! ### The tests of a record block (R32) -/

theorem classOf?_eq_some {b : Byte} {c : ClassNo} : classOf? b = some c ↔ b.toNat = c.val := by
  unfold classOf?
  split
  · rw [Option.some_inj, Fin.ext_iff]
  · have := c.isLt
    simp only [reduceCtorEq, false_iff]
    omega

theorem classOf?_eq_none {b : Byte} : classOf? b = none ↔ 31 < b.toNat := by
  unfold classOf?
  split
  · simp only [reduceCtorEq, false_iff]; omega
  · simp only [true_iff]; omega

theorem upTo15?_eq_some {b : Byte} {e : Fin 16} : upTo15? b = some e ↔ b.toNat = e.val := by
  unfold upTo15?
  split
  · rw [Option.some_inj, Fin.ext_iff]
  · have := e.isLt
    simp only [reduceCtorEq, false_iff]
    omega

theorem upTo15?_eq_none {b : Byte} : upTo15? b = none ↔ 15 < b.toNat := by
  unfold upTo15?
  split
  · simp only [reduceCtorEq, false_iff]; omega
  · simp only [true_iff]; omega

theorem laneOf?_eq_some {b : Byte} {n : Lane} : laneOf? b = some n ↔ b.toNat = n.val := by
  unfold laneOf?
  split
  · rw [Option.some_inj, Fin.ext_iff]
  · have := n.isLt
    simp only [reduceCtorEq, false_iff]
    omega

theorem gateIdOf?_eq_some {b : Byte} {g : GateId} (h : gateIdOf? b = some g) : b.toNat = g.val := by
  unfold gateIdOf? at h
  split at h
  · rw [← Option.some_inj.mp h]
  · cases h

/-- The state codes that a block may carry (R32, R208). -/
theorem loadableState?_cases (b : Byte) :
    (b = 0x01 ∧ loadableState? b = some .valid) ∨ (b = 0x03 ∧ loadableState? b = some .inside) ∨
      (b = 0x04 ∧ loadableState? b = some .outside) ∨ (b = 0x05 ∧ loadableState? b = some .spent) ∨
      (b = 0x06 ∧ loadableState? b = some .revoked) ∨
      (b ∉ [(0x01 : Byte), 0x03, 0x04, 0x05, 0x06] ∧ loadableState? b = none) := by
  have hbyte {n : Nat} (hn : b.toNat = n) : b = BitVec.ofNat 8 n := by
    rw [← hn, BitVec.ofNat_toNat, BitVec.setWidth_eq]
  unfold loadableState?
  split
  · rename_i hn; exact .inl ⟨hbyte hn, rfl⟩
  · rename_i hn; exact .inr (.inl ⟨hbyte hn, rfl⟩)
  · rename_i hn; exact .inr (.inr (.inl ⟨hbyte hn, rfl⟩))
  · rename_i hn; exact .inr (.inr (.inr (.inl ⟨hbyte hn, rfl⟩)))
  · rename_i hn; exact .inr (.inr (.inr (.inr (.inl ⟨hbyte hn, rfl⟩))))
  · rename_i h1 h3 h4 h5 h6
    refine .inr (.inr (.inr (.inr (.inr ⟨?_, rfl⟩))))
    simp only [List.mem_cons, List.not_mem_nil, or_false]
    rintro (rfl | rfl | rfl | rfl | rfl)
    · exact h1 rfl
    · exact h3 rfl
    · exact h4 rfl
    · exact h5 rfl
    · exact h6 rfl

/-- A source that a block may carry (R208). -/
abbrev soundSource (kind number : Byte) : Prop :=
  kind = 0x00 ∧ number.toNat ≤ 5 ∨ kind = 0x01 ∧ 1 ≤ number.toNat ∧ number.toNat ≤ 63

theorem sourceOf?_eq_none {kind number : Byte} : sourceOf? kind number = none ↔ ¬soundSource kind number := by
  unfold sourceOf?
  split
  · rename_i hkind
    subst hkind
    simp only [Option.map_eq_none_iff, laneOf?, soundSource, true_and, (by decide : (0x00 : Byte) ≠ 0x01), false_and,
      or_false]
    split
    · simp only [reduceCtorEq, false_iff]; omega
    · simp only [true_iff]; omega
  · rename_i hlane
    split
    · rename_i hkind
      subst hkind
      simp only [Option.map_eq_none_iff, gateIdOf?, soundSource, true_and, hlane, false_and, false_or]
      split
      · simp only [reduceCtorEq, false_iff]; omega
      · simp only [true_iff]; omega
    · rename_i hgate
      simp only [true_iff]
      rintro (⟨hkind, -⟩ | ⟨hkind, -⟩)
      · exact hlane hkind
      · exact hgate hkind

/-- A source as its two bytes carry it (R208). -/
theorem sourceOf?_eq_some {kind number : Byte} {o : Source} (h : sourceOf? kind number = some o) :
    match o with
    | .lane n => kind = 0x00 ∧ number.toNat = n.val
    | .gate g => kind = 0x01 ∧ number.toNat = g.val := by
  unfold sourceOf? at h
  split at h
  · rename_i hkind
    obtain ⟨n, hn, rfl⟩ := Option.map_eq_some_iff.mp h
    exact ⟨hkind, laneOf?_eq_some.mp hn⟩
  · split at h
    · rename_i hkind
      obtain ⟨g, hg, rfl⟩ := Option.map_eq_some_iff.mp h
      exact ⟨hkind, gateIdOf?_eq_some hg⟩
    · cases h

theorem passageOf?_eq_none {p : List Byte} :
    passageOf? p = none ↔ bitAt (byteAt p 11) 0 = true ∧ ¬soundSource (byteAt p 17) (byteAt p 18) := by
  unfold passageOf?
  split
  · rename_i hbit
    rw [Option.map_eq_none_iff, sourceOf?_eq_none]
    simp [hbit]
  · rename_i hbit
    simp [hbit]

/-- A last passage is there exactly when its bit is set (R208). -/
theorem passageOf?_isSome {p : List Byte} {lp : Option Passage} (h : passageOf? p = some lp) :
    lp.isSome = bitAt (byteAt p 11) 0 := by
  unfold passageOf? at h
  split at h
  · rename_i hbit
    obtain ⟨o, -, rfl⟩ := Option.map_eq_some_iff.mp h
    exact hbit.symm
  · rename_i hbit
    cases h
    simpa using hbit

theorem passageOf?_fields {p : List Byte} {lp : Option Passage} (h : passageOf? p = some lp)
    (hbit : bitAt (byteAt p 11) 0 = true) :
    ∃ o, lp = some ⟨timeAt p 12, o⟩ ∧ sourceOf? (byteAt p 17) (byteAt p 18) = some o := by
  rw [passageOf?, if_pos hbit] at h
  obtain ⟨o, ho, rfl⟩ := Option.map_eq_some_iff.mp h
  exact ⟨o, rfl, ho⟩

theorem uidLength_iff (b : Byte) : (b.toNat = 4 ∨ b.toNat = 7 ∨ b.toNat = 10) ↔ b ∈ [(4 : Byte), 7, 10] := by
  simp only [List.mem_cons, List.not_mem_nil, or_false, ← BitVec.toNat_inj]
  rfl

theorem bindingOf?_eq_none {p : List Byte} :
    bindingOf? p = none ↔ bitAt (byteAt p 11) 1 = true ∧ byteAt p 19 ∉ [(4 : Byte), 7, 10] := by
  unfold bindingOf?
  dsimp only
  rw [← uidLength_iff]
  split
  · rename_i hbit
    split
    · rename_i hlength; simp [hlength]
    · rename_i hlength; simp [hbit, hlength]
  · rename_i hbit
    simp [hbit]

theorem bindingOf?_fields {p : List Byte} {b : Option Uid} (h : bindingOf? p = some b) :
    b = if bitAt (byteAt p 11) 1 = true then some ((p.drop 20).take (byteAt p 19).toNat) else none := by
  unfold bindingOf? at h
  dsimp only at h
  split at h
  · rename_i hbit
    split at h
    · rw [← Option.some_inj.mp h, if_pos hbit]; rfl
    · cases h
  · rename_i hbit
    rw [← Option.some_inj.mp h, if_neg hbit]

/-! ### The record test (R32) -/

/-- The fields that a record test has to read, and the tests that compare them. -/
theorem recordOf?_eq_some {t : Ticket} {p : List Byte} {r : Record} :
    recordOf? t p = some r ↔
      ∃ c st e lp b, classOf? (byteAt p 8) = some c ∧ loadableState? (byteAt p 9) = some st ∧
        upTo15? (byteAt p 10) = some e ∧ passageOf? p = some lp ∧ bindingOf? p = some b ∧
        (entriesConsistent st e = true ∧ ¬(st = .valid ∧ lp ≠ none)) ∧ r = ⟨t, c, st, e, lp, b, false⟩ := by
  unfold recordOf?
  split
  · rename_i c st e lp b hc hst he hlp hb
    simp only [hc, hst, he, hlp, hb, Option.some_inj]
    constructor
    · intro h
      split at h
      · rename_i htests
        cases h
        exact ⟨c, st, e, lp, b, rfl, rfl, rfl, rfl, rfl, htests, rfl⟩
      · cases h
    · rintro ⟨_, _, _, _, _, rfl, rfl, rfl, rfl, rfl, htests, rfl⟩
      rw [if_pos htests]
  · rename_i hnone
    simp only [reduceCtorEq, false_iff]
    rintro ⟨c, st, e, lp, b, hc, hst, he, hlp, hb, -⟩
    exact hnone c st e lp b hc hst he hlp hb

theorem byte_eq_zero_iff (b : Byte) : b = 0x00 ↔ b.toNat = 0 := by
  rw [← BitVec.toNat_inj]
  rfl

/-- The tests of a block's state against its entries used and its last passage, on its bytes (R32). -/
theorem recordTests_iff {p : List Byte} {st : RecordState} {e : Fin 16} {lp : Option Passage}
    (hst : loadableState? (byteAt p 9) = some st) (he : (byteAt p 10).toNat = e.val)
    (hlp : lp.isSome = bitAt (byteAt p 11) 0) :
    (entriesConsistent st e = true ∧ ¬(st = .valid ∧ lp ≠ none)) ↔
      ¬((byteAt p 9 = 0x01 ∧ byteAt p 10 ≠ 0x00) ∨
        (byteAt p 9 ∈ [(0x03 : Byte), 0x04, 0x05] ∧ byteAt p 10 = 0x00) ∨
        (byteAt p 9 = 0x01 ∧ bitAt (byteAt p 11) 0 = true)) := by
  have hzero : byteAt p 10 = 0x00 ↔ e.val = 0 := by rw [byte_eq_zero_iff, he]
  have hnone : lp ≠ none ↔ bitAt (byteAt p 11) 0 = true := by rw [← hlp, Option.isSome_iff_ne_none]
  rw [ne_eq (byteAt p 10), hzero, hnone]
  obtain ⟨hb, hs⟩ | ⟨hb, hs⟩ | ⟨hb, hs⟩ | ⟨hb, hs⟩ | ⟨hb, hs⟩ | ⟨-, hs⟩ := loadableState?_cases (byteAt p 9)
  all_goals rw [hs] at hst; cases hst
  all_goals simp [hb, entriesConsistent]

/-- A block fails the record test for each fault that R32 lists and for no other. -/
theorem recordOf?_eq_none_iff (t : Ticket) (p : List Byte) : recordOf? t p = none ↔
    31 < (byteAt p 8).toNat ∨ byteAt p 9 ∉ [(0x01 : Byte), 0x03, 0x04, 0x05, 0x06] ∨ 15 < (byteAt p 10).toNat ∨
      (byteAt p 9 = 0x01 ∧ byteAt p 10 ≠ 0x00) ∨
      (byteAt p 9 ∈ [(0x03 : Byte), 0x04, 0x05] ∧ byteAt p 10 = 0x00) ∨
      (byteAt p 9 = 0x01 ∧ bitAt (byteAt p 11) 0 = true) ∨
      (bitAt (byteAt p 11) 0 = true ∧ ¬soundSource (byteAt p 17) (byteAt p 18)) ∨
      (bitAt (byteAt p 11) 1 = true ∧ byteAt p 19 ∉ [(4 : Byte), 7, 10]) := by
  have hstate : loadableState? (byteAt p 9) = none ↔ byteAt p 9 ∉ [(0x01 : Byte), 0x03, 0x04, 0x05, 0x06] := by
    obtain ⟨hb, hs⟩ | ⟨hb, hs⟩ | ⟨hb, hs⟩ | ⟨hb, hs⟩ | ⟨hb, hs⟩ | ⟨hb, hs⟩ := loadableState?_cases (byteAt p 9)
    case inr.inr.inr.inr.inr => exact ⟨fun _ => hb, fun _ => hs⟩
    all_goals rw [hs, hb]; decide
  rw [← classOf?_eq_none, ← hstate, ← upTo15?_eq_none, ← passageOf?_eq_none, ← bindingOf?_eq_none]
  cases hc : classOf? (byteAt p 8) with
  | none => simp [recordOf?, hc]
  | some c =>
  cases hst : loadableState? (byteAt p 9) with
  | none => simp [recordOf?, hst]
  | some st =>
  cases he : upTo15? (byteAt p 10) with
  | none => simp [recordOf?, he]
  | some e =>
  cases hlp : passageOf? p with
  | none => simp [recordOf?, hlp]
  | some lp =>
  cases hb : bindingOf? p with
  | none => simp [recordOf?, hb]
  | some b =>
    have htests := recordTests_iff hst (upTo15?_eq_some.mp he) (passageOf?_isSome hlp)
    simp only [recordOf?, hc, hst, he, hlp, hb, reduceCtorEq, false_or, or_false]
    split
    · rename_i h; simpa only [reduceCtorEq, false_iff] using htests.mp h
    · rename_i h
      simp only [true_iff]
      by_contra hno
      exact h (htests.mpr hno)

/-- A record that passes the record test has every field as carried (R34, R208). -/
theorem recordOf?_fields {t : Ticket} {p : List Byte} {r : Record} (h : recordOf? t p = some r) :
    r.ticket = t ∧ r.cls.val = (byteAt p 8).toNat ∧
      (match r.state with
        | .valid => byteAt p 9 = 0x01
        | .held _ => False
        | .inside => byteAt p 9 = 0x03
        | .outside => byteAt p 9 = 0x04
        | .spent => byteAt p 9 = 0x05
        | .revoked => byteAt p 9 = 0x06) ∧
      r.entries.val = (byteAt p 10).toNat ∧
      (bitAt (byteAt p 11) 0 = false → r.lastPassage = none) ∧
      (bitAt (byteAt p 11) 0 = true → ∃ source, r.lastPassage = some ⟨⟨field32 p 12, byteAt p 16⟩, source⟩ ∧
        match source with
        | .lane n => byteAt p 17 = 0x00 ∧ (byteAt p 18).toNat = n.val
        | .gate g => byteAt p 17 = 0x01 ∧ (byteAt p 18).toNat = g.val) ∧
      r.binding =
        (if bitAt (byteAt p 11) 1 = true then some ((p.drop 20).take (byteAt p 19).toNat) else none) ∧
      r.pendingReport = false := by
  obtain ⟨c, st, e, lp, b, hc, hst, he, hlp, hb, -, rfl⟩ := recordOf?_eq_some.mp h
  refine ⟨rfl, (classOf?_eq_some.mp hc).symm, ?_, (upTo15?_eq_some.mp he).symm, fun hbit => ?_, fun hbit => ?_,
    bindingOf?_fields hb, rfl⟩
  · obtain ⟨hb, hs⟩ | ⟨hb, hs⟩ | ⟨hb, hs⟩ | ⟨hb, hs⟩ | ⟨hb, hs⟩ | ⟨-, hs⟩ := loadableState?_cases (byteAt p 9)
    all_goals rw [hs] at hst; cases hst
    all_goals exact hb
  · rw [← passageOf?_isSome hlp] at hbit
    simpa using hbit
  · obtain ⟨o, hlp, ho⟩ := passageOf?_fields hlp hbit
    refine ⟨o, hlp, ?_⟩
    have hsource := sourceOf?_eq_some ho
    cases o <;> exact hsource

/-! ### The services -/

section
variable {s : State} {p : List Byte} {t : Ticket}

theorem bytesAt_zero (p : List Byte) (n : Nat) : bytesAt p 0 n = p.take n := rfl

theorem badPresence_loadTicket (h : (byteAt p 11).toNat < 16) : badPresence .loadTicket p = false :=
  decide_eq_false (Nat.not_le.mpr h)

/-- An uplink service in service is answered as it answers (R199, R200). -/
theorem State.serveUplink_of_takes {type : Byte} {k : UplinkKind} {serve : State → List Byte → State × Answer}
    {u : State} {a : Answer} (htakes : s.TakesUplink type p) (hkind : UplinkRequest.kind ⟨type, p⟩ = k)
    (hserve : serve s p = (u, a)) : s.serveUplink k serve = u.replied type p a.status a.payload := by
  obtain ⟨hitem, hslot⟩ := htakes
  rw [State.serveUplink_of_kind s k serve _ ((State.serving_eq_some s _).mpr hitem) hslot hkind, hserve]
  rfl

/-- What LOAD_TICKET answers about a sound record whose number is new (R32, R33). -/
theorem loadTicketService_of_new (hticket : ticketOfBytes? (p.take 8) = some t) (hcheck : ticketWellFormed t = true)
    {r : Record} (hrecord : recordOf? t p = some r) (hnew : s.table.lookup t = none) :
    loadTicketService s p =
      if Config.tableCapacity ≤ s.table.length then (s, .refuse .tableFull)
      else ({ s with table := s.table.insert s.table.lowestFree r }, .ok (bytes16 s.table.lowestFree)) := by
  simp only [loadTicketService, bytesAt_zero, hticket, hcheck, hrecord, hnew, Bool.true_eq_false, if_false]

/-- What LOAD_TICKET answers about a sound record whose number stands in the table (R32, R34). -/
theorem loadTicketService_of_found (hticket : ticketOfBytes? (p.take 8) = some t) (hcheck : ticketWellFormed t = true)
    {r : Record} (hrecord : recordOf? t p = some r) {slot : Nat} {old : Record}
    (hfound : s.table.lookup t = some (slot, old)) :
    loadTicketService s p =
      if old.isHeld then (s, .refuse .held)
      else if old.pendingReport then (s, .refuse .pendingReport)
      else (s.setRecord slot r, .ok (bytes16 slot)) := by
  simp only [loadTicketService, bytesAt_zero, hticket, hcheck, hrecord, hfound, Bool.true_eq_false, if_false]

/-- What DROP_TICKET answers about a record found (R35). -/
theorem dropTicketService_of_found (hp : p.length = 8) (hticket : ticketOfBytes? p = some t) {slot : Nat}
    {r : Record} (hfound : s.table.lookup t = some (slot, r)) :
    dropTicketService s p =
      if r.isHeld then (s, .refuse .held)
      else if r.pendingReport then (s, .refuse .pendingReport)
      else ({ s with table := s.table.erase slot }, .ok (bytes16 slot)) := by
  simp only [dropTicketService, bytesAt_zero, List.take_of_length_le hp.le, hticket, hfound]

theorem holdBytes_of_state (r : Record) :
    holdBytes r.hold? =
      match r.state with
      | .held h =>
        [byteOf h.lane.val, match h.direction with | .IN => 0x01 | .OUT => 0x02]
          ++ bytes32 h.grantTime.seconds ++ [h.grantTime.fraction]
      | _ => List.replicate 7 0 := by
  unfold Record.hold?
  cases r.state with
  | held h => cases hd : h.direction <;> simp [holdBytes, timeBytes, Side.code, hd]
  | _ => rfl

end

end Sys2Proof.Machine

open Sys2Proof Sys2Proof.Machine

/-- Settles O50: the record test is read off the block's bytes field by field, and an insertion and a replacement are
what the table's own laws say of them. -/
theorem loadTicketInsertsOrReplaces : Obligations.LoadTicketInsertsOrReplaces := by
  refine ⟨recordOf?_eq_none_iff, fun t p r h => recordOf?_fields h, fun s p htakes hlen hpresence hwf => ?_⟩
  have hkind : UplinkRequest.kind ⟨0x10, p⟩ = .loadTicket :=
    UplinkRequest.kind_of_catalogue rfl hlen (badPresence_loadTicket hpresence)
  have answered {u : State} {a : Answer} (hserve : loadTicketService s p = (u, a)) :
      exec .loadTicket s = .next (u.replied 0x10 p a.status a.payload) :=
    congrArg _ (State.serveUplink_of_takes htakes hkind hserve)
  refine ⟨fun hticket => answered (loadTicketService_of_faulty hticket s), fun t hticket => ⟨fun hcheck => ?_,
    fun hcheck => ⟨fun hrecord => ?_, fun r hrecord => ?_⟩⟩⟩
  · exact answered (a := .refuse .badCheck)
      (by simp only [loadTicketService, bytesAt_zero, hticket, hcheck, if_true])
  · exact answered (a := .refuse .badRecord)
      (by simp only [loadTicketService, bytesAt_zero, hticket, hcheck, hrecord, Bool.true_eq_false, if_false])
  · refine ⟨fun hnew => ?_, fun slot old hfound => ?_⟩
    · have hservice := loadTicketService_of_new hticket hcheck hrecord hnew
      obtain ⟨hfree, hbelow, -⟩ := Table.lowestFree_spec hwf
      refine ⟨fun hfull => ?_, fun hroom => ?_⟩
      · rw [if_pos (by rw [hfull, Config.tableCapacity])] at hservice
        exact answered hservice
      · rw [if_neg (by rw [Config.tableCapacity]; omega)] at hservice
        refine ⟨_, _, answered hservice, rfl, Table.length_insert _ _ _, hfree, hbelow, ?_, fun k hk => ?_⟩
        · rw [Table.get?_insert hwf hfree, if_pos rfl]
        · rw [Table.get?_insert hwf hfree, if_neg (Ne.symm hk)]
    · have hservice := loadTicketService_of_found hticket hcheck hrecord hfound
      refine ⟨fun hheld => ?_, fun hheld hpending => ?_, fun hheld hpending => ?_⟩
      · rw [if_pos hheld] at hservice
        exact answered hservice
      · rw [if_neg (by simp [hheld]), if_pos hpending] at hservice
        exact answered hservice
      · rw [if_neg (by simp [hheld]), if_neg (by simp [hpending])] at hservice
        have hget := Table.get?_of_lookup hwf hfound
        refine ⟨_, answered hservice, rfl, Table.length_set _ _ _, ?_, fun k hk => ?_⟩
        · rw [State.setRecord_table, Table.get?_set, if_pos rfl, hget]; rfl
        · rw [State.setRecord_table, Table.get?_set, if_neg (Ne.symm hk)]

/-- Settles O51: each service in the order of its tests; a record dropped leaves its slot free and the others alone. -/
theorem tableRequestsDropQueryAndClear : Obligations.TableRequestsDropQueryAndClear := by
  refine ⟨fun s p htakes hlen hwf => ?_, fun s p htakes hlen => ?_, fun s htakes => ?_⟩
  · have answered {u : State} {a : Answer} (hserve : dropTicketService s p = (u, a)) :
        exec .dropTicket s = .next (u.replied 0x11 p a.status a.payload) :=
      congrArg _ (State.serveUplink_of_takes htakes (UplinkRequest.kind_of_catalogue rfl hlen rfl) hserve)
    have hbytes : bytesAt p 0 8 = p := List.take_of_length_le hlen.le
    refine ⟨fun hticket => answered (dropTicketService_of_faulty (by rwa [hbytes]) s),
      fun t hticket => ⟨fun hnew => ?_, fun slot r hfound => ?_⟩⟩
    · exact answered (a := .refuse .notFound) (by simp only [dropTicketService, hbytes, hticket, hnew])
    · have hservice := dropTicketService_of_found hlen hticket hfound
      refine ⟨fun hheld => ?_, fun hheld hpending => ?_, fun hheld hpending => ?_⟩
      · rw [if_pos hheld] at hservice
        exact answered hservice
      · rw [if_neg (by simp [hheld]), if_pos hpending] at hservice
        exact answered hservice
      · rw [if_neg (by simp [hheld]), if_neg (by simp [hpending])] at hservice
        have hget := Table.get?_of_lookup hwf hfound
        refine ⟨_, answered hservice, rfl, Table.length_erase hget, ?_, fun k hk => ?_⟩
        · rw [Table.get?_erase hwf, if_pos rfl]
        · rw [Table.get?_erase hwf, if_neg (Ne.symm hk)]
  · have answered {u : State} {a : Answer} (hserve : queryTicketService s p = (u, a)) :
        exec .queryTicket s = .next (u.replied 0x13 p a.status a.payload) :=
      congrArg _ (State.serveUplink_of_takes htakes (UplinkRequest.kind_of_catalogue rfl hlen rfl) hserve)
    have hbytes : bytesAt p 0 8 = p := List.take_of_length_le hlen.le
    refine ⟨fun hticket => answered (queryTicketService_of_faulty (by rwa [hbytes]) s),
      fun t hticket => ⟨fun hnew => ?_, fun slot r hfound => ?_⟩⟩
    · exact answered (a := .refuse .notFound) (by simp only [queryTicketService, hbytes, hticket, hnew])
    · refine (answered (u := s) (a := .ok (queryPayload slot r))
        (by simp only [queryTicketService, hbytes, hticket, hfound])).trans ?_
      exact congrArg (fun l => Host.Outcome.next (s.replied 0x13 p .ok (bytes16 slot ++ r.block ++ l)))
        (holdBytes_of_state r)
  · have answered {u : State} {a : Answer} (hserve : clearTableService s [] = (u, a)) :
        exec .clearTable s = .next (u.replied 0x12 [] a.status a.payload) :=
      congrArg _ (State.serveUplink_of_takes htakes (UplinkRequest.kind_of_catalogue rfl rfl rfl) hserve)
    refine ⟨fun hgate => ?_, fun hgate hheld => ?_, fun hgate hheld => ?_⟩
    · exact answered (a := .refuse .gateOpen) (by rw [clearTableService, if_pos hgate])
    · have hany : (s.table.any fun e => e.2.isHeld) = true := List.any_eq_true.mpr hheld
      exact answered (a := .refuse .holdsActive)
        (by rw [clearTableService, if_neg (not_not_intro hgate), if_pos hany])
    · have hany : ¬(s.table.any fun e => e.2.isHeld) = true := by
        rw [List.any_eq_true]
        rintro ⟨e, he, h⟩
        rw [hheld e he] at h
        cases h
      have hservice := answered (by rw [clearTableService, if_neg (not_not_intro hgate), if_neg hany])
      have hcondition : State.attnCondition { s with table := [], pendingCount := 0 }
          = decide (s.watermark ≤ s.journal.length) := by simp [State.attnCondition]
      rw [hservice, State.driveAttn, hcondition]
      rfl
end

section
/-! Power-on reset (R38, R45, R50, R54, R67, R72, R135, R167, R181, R194, R206), and a granted presentation (R82). -/

namespace Sys2Proof.Machine

/-! ### Power-on reset -/

/-- A lane unit after power-on, in full (R135, R181). -/
theorem LaneUnit.powerOn_eq (pair : EncoderPair) (evac : Bool) :
    LaneUnit.powerOn pair evac =
      { role := .off, state := if evac then .free else .closed, hold := none, completion := none, accumulator := 0,
        counted := false, reference := pair, armTimer := none, overdue := false, live := ⟨8, 72, false⟩,
        preload := ⟨8, 72, false⟩, forcedReports := 0, tallies := ⟨0, 0, 0, 0, 0, 0⟩, lockIn := evac,
        lockOut := evac } := by
  cases evac <;> rfl

/-- The Gate Controller after power-on, in full (R181). -/
theorem GateController.powerOn_eq (evac : Bool) :
    GateController.powerOn evac =
      { gate := if evac then .evac else .closed, accepted := evac, previousSample := evac, evacDue := false,
        gateId := 0, eventCode := ⟨0, 0⟩, link := .offline, monitorCount := 0, timeoutDue := false,
        linkTimeout := 10, events := if evac then [.evacBegin] else [], resetCause := .power } := by
  cases evac <;> rfl

theorem State.powerOn_lane (pins : PowerPins) (n : Lane) :
    (State.powerOn pins).lanes.get n = LaneUnit.powerOn (pins.encoders.get n) pins.evac :=
  get_map _ _ n

theorem State.powerOn_port (pins : PowerPins) (n : Lane) :
    (State.powerOn pins).ports.get n = Port.powerOn (pins.selected.get n) := get_map _ _ n

theorem State.powerOn_context (pins : PowerPins) (n : Lane) :
    (State.powerOn pins).contexts.get n = LaneContext.empty := get_replicate _ n

theorem State.powerOn_class (pins : PowerPins) (c : ClassNo) :
    (State.powerOn pins).classes.get c = ClassRecord.reset := get_replicate _ c

theorem State.powerOn_zone (pins : PowerPins) (z : ZoneNo) :
    (State.powerOn pins).zones.get z = ZoneRecord.reset := get_replicate _ z

theorem Settings.reset_ok : Settings.Ok ⟨8, 72, false⟩ := by decide

/-- A lane unit after power-on is at rest with its reset settings, and its locks follow its state. -/
theorem LaneUnit.powerOn_rest (pair : EncoderPair) (evac : Bool) (lu : LaneUnit)
    (hlu : lu = LaneUnit.powerOn pair evac) :
    lu.HoldOk ∧ lu.RotorOk ∧ lu.live.Ok ∧ lu.preload.Ok ∧ lu.lockIn = lu.lockInLevel ∧
      lu.lockOut = lu.lockOutLevel := by
  rw [LaneUnit.powerOn_eq] at hlu
  subst hlu
  cases evac
  · exact ⟨by simp [LaneUnit.HoldOk], by simp [LaneUnit.RotorOk], Settings.reset_ok, Settings.reset_ok, rfl, rfl⟩
  · exact ⟨by simp [LaneUnit.HoldOk], by simp [LaneUnit.RotorOk], Settings.reset_ok, Settings.reset_ok, rfl, rfl⟩

theorem State.powerOn_lanesOk (pins : PowerPins) : (State.powerOn pins).LanesOk := by
  intro n
  have hlane := State.powerOn_lane pins n
  have hcontext := State.powerOn_context pins n
  obtain ⟨hhold, -⟩ := LaneUnit.powerOn_rest _ _ _ hlane
  refine ⟨hhold, ?_, fun h => absurd h Bool.false_ne_true, ?_⟩
  · rw [hlane, LaneUnit.powerOn_eq]
    exact fun h => absurd rfl h
  · rw [hcontext]
    exact fun h => absurd rfl h

theorem State.powerOn_gateOk (pins : PowerPins) : (State.powerOn pins).GateOk := by
  have hgc : (State.powerOn pins).gc = GateController.powerOn pins.evac := rfl
  rw [State.GateOk, hgc]
  simp only [State.powerOn_lane, LaneUnit.powerOn_eq, GateController.powerOn_eq]
  cases pins.evac <;> simp

theorem State.powerOn_countsOk (pins : PowerPins) : (State.powerOn pins).CountsOk := by
  have hgc : (State.powerOn pins).gc = GateController.powerOn pins.evac := rfl
  have hwatermark : (State.powerOn pins).watermark = 64 := rfl
  simp only [State.CountsOk, hgc, hwatermark, State.powerOn_lane, State.powerOn_class, State.powerOn_context,
    LaneUnit.powerOn_eq, GateController.powerOn_eq]
  cases pins.evac <;> decide

/-- A request slot that is EMPTY, with nothing chosen (R60, R188). -/
theorem State.powerOn_serviceOk (pins : PowerPins) : (State.powerOn pins).ServiceOk := by
  have hnothing {item : Service} (h : (none : Option Service) = some item) : False := by cases h
  refine ⟨trivial, fun n => ⟨fun h => ?_, fun h => (hnothing h).elim⟩,
    fun h => absurd h Bool.false_ne_true, fun h => (hnothing h).elim⟩
  rw [State.powerOn_port] at h
  exact absurd h Bool.false_ne_true

/-- The power-on state meets every condition. -/
theorem State.powerOn_inv (pins : PowerPins) : (State.powerOn pins).Inv where
  table := ⟨rfl, List.nodup_nil, fun e he => nomatch he⟩
  records := fun e he => nomatch he
  pendingReports := rfl
  reserved := fun z => by rw [State.powerOn_zone]; rfl
  bond := ⟨fun n ref href => (by rw [State.powerOn_context] at href; cases href), fun e he => nomatch he⟩
  lanes := State.powerOn_lanesOk pins
  commands := ⟨Nat.zero_le _, fun _ => rfl, fun c hc => nomatch hc⟩
  rotors := fun n => by
    obtain ⟨-, hrotor, hlive, hpreload, -⟩ := LaneUnit.powerOn_rest _ _ _ (State.powerOn_lane pins n)
    exact ⟨hrotor, hlive, hpreload⟩
  gate := State.powerOn_gateOk pins
  locks := fun n => by
    obtain ⟨-, -, -, -, hin, hout⟩ := LaneUnit.powerOn_rest _ _ _ (State.powerOn_lane pins n)
    exact ⟨hin, hout⟩
  journal := ⟨Nat.zero_le _, rfl, fun e he => nomatch he⟩
  lines := ⟨rfl, fun n => by rw [State.powerOn_port]; rfl⟩
  counts := State.powerOn_countsOk pins
  service := State.powerOn_serviceOk pins
  uplink := ⟨Nat.zero_le _, rfl, fun h => absurd h Bool.false_ne_true, fun h => absurd h Bool.false_ne_true⟩

/-- The queue of commands is no part of the invariant. -/
theorem State.Inv.withPending {s : State} (h : s.Inv) (l : List Instr) : State.Inv { s with pending := l } where
  table := h.table
  records := h.records
  pendingReports := h.pendingReports
  reserved := h.reserved
  bond := h.bond
  lanes := h.lanes
  commands := h.commands
  rotors := h.rotors
  gate := h.gate
  locks := h.locks
  journal := h.journal
  lines := h.lines
  counts := h.counts
  service := h.service
  uplink := h.uplink

/-- The reset state is the power-on at the levels that notes/assumptions/6.md chooses. -/
theorem State.powerOn_eq_reset :
    State.powerOn ⟨false, ⟨false, false⟩, .replicate 6 ⟨false, false⟩, .replicate 6 false⟩ = State.reset := by
  have hlanes : (Vector.replicate 6 (⟨false, false⟩ : EncoderPair)).map (fun pair => LaneUnit.powerOn pair false)
      = .replicate 6 .reset := get_ext fun n => by rw [get_map, get_replicate, get_replicate]; rfl
  have hports : (Vector.replicate 6 false).map Port.powerOn = .replicate 6 .reset :=
    get_ext fun n => by rw [get_map, get_replicate, get_replicate]; rfl
  rw [State.powerOn, hlanes, hports]
  rfl

/-! ### A granted presentation -/

/-- A presentation in service is taken by its own command (R3, R73). -/
theorem State.Presents.exec_eq {s : State} {c : Instr} {n : Lane} {cred : Credential}
    (h : s.Presents c n cred) : exec c s = .next (s.servePresentation n cred) := by
  obtain ⟨rfl, side, text, ⟨hitem, hrequest⟩, rfl⟩ | ⟨rfl, side, uid, payload, ⟨hitem, hrequest⟩, rfl⟩ := h
  · have hq := (State.laneRequestInService_eq_some s n _).mpr
      ⟨(State.serving_eq_some s _).mpr hitem, hrequest⟩
    simp only [exec, execPresentCode, hq]
  · have hq := (State.laneRequestInService_eq_some s n _).mpr
      ⟨(State.serving_eq_some s _).mpr hitem, hrequest⟩
    simp only [exec, execPresentCard, hq]

/-- The zones under a grant: an entry reserves a place in its class's zone, an exit reserves none (R48, R82). -/
theorem State.grantHold_zones (s : State) (n : Lane) (cred : Credential) (slot : Nat) (r : Record) :
    (s.grantHold n cred slot r).zones =
      match cred.side with
      | .IN => s.zones.set (s.zoneOf r) (s.zones.get (s.zoneOf r)).reserve
      | .OUT => s.zones := by
  have hzone : (s.newHold n cred r).reservedZone = match cred.side with | .IN => some (s.zoneOf r) | .OUT => none :=
    rfl
  cases hside : cred.side <;> rw [hside] at hzone
  · have hmodified := State.modifyReservedZone_some (s.setRecord slot { r with state := .held (s.newHold n cred r) })
      (s.newHold n cred r) ZoneRecord.reserve _ hzone
    simp only [State.grantHold, hmodified]
    rfl
  · have hmodified := State.modifyReservedZone_none (s.setRecord slot { r with state := .held (s.newHold n cred r) })
      (s.newHold n cred r) ZoneRecord.reserve hzone
    simp only [State.grantHold, hmodified]
    rfl

/-- The granted record is the one that its lane holds (R69, R82). -/
theorem State.grantHold_heldAt {s : State} {n : Lane} {cred : Credential} {slot : Nat} {r : Record}
    (hr : s.table.get? slot = some r) :
    (s.grantHold n cred slot r).heldAt n
      = some (slot, { r with state := .held (s.newHold n cred r) }, s.newHold n cred r) := by
  obtain ⟨zs, -, heq⟩ := s.grantHold_frame n cred slot r
  refine (State.heldAt_eq_some _ _ _ _ _).mpr ⟨⟨r.ticket, slot⟩, ?_, rfl, ?_, rfl⟩
  · rw [heq]
    simp
  · rw [heq]
    simp [State.rewrite, hr]

/-- The lane status block of a GRANT names the new hold, and is otherwise as before the service (R86). -/
theorem State.grantHold_statusBlock {s : State} {n : Lane} {cred : Credential} {slot : Nat} {r : Record}
    (hr : s.table.get? slot = some r) :
    (s.grantHold n cred slot r).statusBlock n = { s.statusBlock n with hold := some (cred.side, r.ticket) } := by
  have hheld := State.grantHold_heldAt (cred := cred) (n := n) hr
  obtain ⟨zs, -, heq⟩ := s.grantHold_frame n cred slot r
  rw [State.statusBlock, hheld, heq]
  simp [State.statusBlock, State.rewrite, State.newHold]

end Sys2Proof.Machine

open Sys2Proof Sys2Proof.Machine

/-- Settles O4: field by field, the lane units and the Gate Controller in full. -/
theorem powerOnResetValues : Obligations.PowerOnResetValues := by
  intro pins s
  refine ⟨_, rfl, rfl, rfl, State.powerOn_class pins, State.powerOn_zone pins, rfl, State.powerOn_context pins, rfl,
    rfl, rfl, rfl, rfl, fun n => ?_, rfl, rfl, rfl, rfl, GateController.powerOn_eq pins.evac, fun n => ?_, rfl, rfl,
    rfl, rfl, rfl⟩
  · exact (State.powerOn_lane pins n).trans (LaneUnit.powerOn_eq _ _)
  · exact (State.powerOn_port pins n).trans rfl

/-- Settles O3: the power-on state meets each condition, and the reset state is one of them. -/
theorem powerOnMeetsTheInvariant : Obligations.PowerOnMeetsTheInvariant := by
  refine ⟨?_, fun pins s t h => ?_, ?_⟩
  · rw [← State.powerOn_eq_reset]
    exact State.powerOn_inv _
  · rw [← next_inj h]
    exact (State.powerOn_inv pins).withPending s.pending
  · simp only [exec, execPowerOnReset, State.powerOn_eq_reset]

/-- Settles O41: the grant's writes, one by one, and the reply built from the state they leave. -/
theorem grantsHoldTheRecord : Obligations.GrantsHoldTheRecord := by
  rintro c s n cred slot r _ hpresents hwf hdecision rfl
  obtain ⟨-, -, ⟨t, -, hlookup⟩, -⟩ := State.checksOfRecord_of_grant hdecision
  have hr := Table.get?_of_lookup hwf hlookup
  obtain ⟨zs, -, heq⟩ := s.grantHold_frame n cred slot r
  have htable : (s.grantHold n cred slot r).table
      = s.table.set slot { r with state := .held (s.newHold n cred r) } := by rw [heq]; rfl
  refine ⟨s.grantHold n cred slot r, ?_, ?_, fun k hk => ?_, s.grantHold_zones n cred slot r, ?_⟩
  · rw [heq]
    rfl
  · rw [htable, Table.get?_set, if_pos rfl, hr]
    obtain ⟨hside, hstate | hstate⟩ | ⟨hside, hstate⟩ := State.state_of_grant hdecision <;>
      simp [State.newHold, State.zoneOf, State.classOf, hside, hstate]
  · rw [htable, Table.get?_set, if_neg (Ne.symm hk)]
  · rw [hpresents.exec_eq, State.servePresentation, State.present, hdecision]
    dsimp only
    rw [State.finishLaneRequest_eq_repliedLane, State.grantReply, State.grantHold_statusBlock hr]
    have hzone : (s.grantHold n cred slot r).replyZone r (s.newHold n cred r) = (s.classes.get r.cls).zone := by
      rw [heq]
      cases hside : cred.side <;>
        simp [State.replyZone, State.newHold, State.zoneOf, State.classOf, State.rewrite, hside]
    have hlanes : (s.grantHold n cred slot r).lanes = s.lanes := by rw [heq]; rfl
    have hclasses : (s.grantHold n cred slot r).classOf r = s.classes.get r.cls := by rw [heq]; rfl
    rw [hzone, hlanes, hclasses]
    cases hside : cred.side <;> simp [State.newHold, entriesRemaining, hside]
end

section
/-! The warm reset: the ends of every hold in order, the CONFLICT entries and the reports owed (R39, R40, R97, R105,
R158, R159), and the rest of the part (R136, R180, R195, R206). -/

namespace Sys2Proof.Machine

/-! ### The holds in the order in which a warm reset ends them -/

/-- A lane's holds with their slots and records, in slot order. -/
def Table.holdsOf (t : Table) (n : Lane) : List (Nat × Record × Hold) :=
  t.filterMap fun e =>
    match e.2.hold? with
    | some h => if h.lane = n then some (e.1, e.2, h) else none
    | none => none

/-- Every hold with its slot and record, in ascending order of the holding lane, and in slot order within a lane
(R40). -/
def State.allHolds (s : State) : List (Nat × Record × Hold) := lanesAscending.flatMap s.table.holdsOf

/-- A hold that owes a CONFLICT entry at a non-commit end (R97). -/
def markedHold (x : Nat × Record × Hold) : Bool := decide (x.2.2.direction = .IN ∧ x.2.2.remoteMark ≠ none)

theorem Table.mem_holdsOf {t : Table} {n : Lane} {x : Nat × Record × Hold} :
    x ∈ t.holdsOf n ↔ (x.1, x.2.1) ∈ t ∧ x.2.1.state = .held x.2.2 ∧ x.2.2.lane = n := by
  obtain ⟨k, r, h⟩ := x
  simp only [Table.holdsOf, List.mem_filterMap, ← Record.hold?_eq_some]
  constructor
  · rintro ⟨⟨i, q⟩, hmem, hsome⟩
    cases hh : q.hold? with
    | none => simp [hh] at hsome
    | some y =>
      by_cases hn : y.lane = n
      · simp only [hh, hn, if_true, Option.some_inj, Prod.mk.injEq] at hsome
        obtain ⟨rfl, rfl, rfl⟩ := hsome
        exact ⟨hmem, hh, hn⟩
      · simp [hh, hn] at hsome
  · rintro ⟨hmem, hh, hn⟩
    exact ⟨(k, r), hmem, by simp [hh, hn]⟩

theorem mem_lanesAscending (n : Lane) : n ∈ lanesAscending := by
  revert n
  decide

theorem State.mem_allHolds {s : State} {x : Nat × Record × Hold} :
    x ∈ s.allHolds ↔ (x.1, x.2.1) ∈ s.table ∧ x.2.1.state = .held x.2.2 := by
  simp only [State.allHolds, List.mem_flatMap, Table.mem_holdsOf]
  exact ⟨fun ⟨_, _, hmem, hstate, _⟩ => ⟨hmem, hstate⟩,
    fun ⟨hmem, hstate⟩ => ⟨_, mem_lanesAscending _, hmem, hstate, rfl⟩⟩

theorem Table.slotsHeldBy_eq (t : Table) (n : Lane) : t.slotsHeldBy n = (t.holdsOf n).map Prod.fst := by
  induction t with
  | nil => rfl
  | cons e rest ih =>
    unfold Table.slotsHeldBy Table.holdsOf at ih ⊢
    rw [List.filter_cons, List.filterMap_cons]
    cases hh : e.2.hold? with
    | none => simpa [hh] using ih
    | some h => by_cases hn : h.lane = n <;> simpa [hh, hn] using ih

theorem State.markedHolds_eq (s : State) : s.markedHolds = s.allHolds.filter markedHold := by
  rw [State.markedHolds, State.allHolds, List.filter_flatMap]
  refine List.flatMap_congr fun n _ => ?_
  induction s.table with
  | nil => rfl
  | cons e rest ih =>
    unfold Table.holdsOf at ih ⊢
    rw [List.filterMap_cons, List.filterMap_cons]
    cases hh : e.2.hold? with
    | none => simpa only [hh] using ih
    | some h =>
      by_cases hn : h.lane = n
      · by_cases hm : h.direction = .IN ∧ h.remoteMark ≠ none
        · simpa [hh, hn, hm, markedHold] using ih
        · simpa [hh, hn, hm, markedHold] using ih
      · simpa [hh, hn] using ih

/-- In a table of the canonical form no slot stands twice. -/
theorem Table.slots_nodup {t : Table} {n : Nat} (h : t.wfFrom n = true) : (t.map Prod.fst).Nodup := by
  induction t generalizing n with
  | nil => exact List.nodup_nil
  | cons e rest ih =>
    obtain ⟨k, r⟩ := e
    simp only [Table.wfFrom, Bool.and_eq_true, decide_eq_true_eq] at h
    obtain ⟨-, hrest⟩ := h
    rw [List.map_cons, List.nodup_cons]
    refine ⟨fun hmem => ?_, ih hrest⟩
    obtain ⟨e, he, heq⟩ := List.mem_map.mp hmem
    have := (Table.wfFrom_mem hrest he).1
    omega

theorem Table.holdsOf_slots_nodup {t : Table} (h : t.wf = true) (n : Lane) :
    ((t.holdsOf n).map Prod.fst).Nodup := by
  rw [← Table.slotsHeldBy_eq]
  exact (List.filter_sublist.map _).nodup (Table.slots_nodup h)

/-- No slot stands twice among the holds: a record has one hold, and its hold one lane. -/
theorem State.allHolds_slots_nodup {s : State} (h : s.table.wf = true) : (s.allHolds.map Prod.fst).Nodup := by
  rw [State.allHolds, List.map_flatMap, List.nodup_flatMap]
  refine ⟨fun n _ => Table.holdsOf_slots_nodup h n, ?_⟩
  have hlanes : lanesAscending.Pairwise (· ≠ ·) := by decide
  refine hlanes.imp fun {m n} hne => ?_
  intro k hm hn
  obtain ⟨x, hx, rfl⟩ := List.mem_map.mp hm
  obtain ⟨y, hy, hslot⟩ := List.mem_map.mp hn
  obtain ⟨hxmem, hxstate, hxlane⟩ := Table.mem_holdsOf.mp hx
  obtain ⟨hymem, hystate, hylane⟩ := Table.mem_holdsOf.mp hy
  rw [hslot] at hymem
  have hr := ((Table.get?_iff_mem h).mpr hxmem).symm.trans ((Table.get?_iff_mem h).mpr hymem)
  rw [← Option.some_inj.mp hr, hxstate, RecordState.held.injEq] at hystate
  rw [← hystate] at hylane
  exact hne (hxlane.symm.trans hylane)

/-! ### Lanes one after another, or all holds in one run -/

theorem Table.slotsHeldBy_set {t : Table} {k : Nat} {r q : Record} {n : Lane} (hr : t.get? k = some r)
    (hq : (q.hold?.any fun h => h.lane = n) = r.hold?.any fun h => h.lane = n) :
    (t.set k q).slotsHeldBy n = t.slotsHeldBy n := by
  induction t with
  | nil => rfl
  | cons e rest ih =>
    obtain ⟨i, r'⟩ := e
    simp only [Table.get?] at hr
    unfold Table.slotsHeldBy at ih ⊢
    simp only [Table.set]
    split at hr
    · rename_i hi
      cases hr
      rw [if_pos hi, List.filter_cons, List.filter_cons]
      dsimp only
      rw [hq]
      split <;> rfl
    · rename_i hi
      rw [if_neg hi, List.filter_cons, List.filter_cons]
      split
      · rw [List.map_cons, List.map_cons, ih hr]
      · exact ih hr

theorem State.report_slotsHeldBy (s : State) (slot : Nat) (r : Record) (kind : Kind) (source : Source)
    (time : VenueTime) (zone : ZoneNo) (n : Lane) :
    (s.report slot r kind source time zone).table.slotsHeldBy n = s.table.slotsHeldBy n := by
  obtain ⟨-, heq⟩ | ⟨-, heq⟩ := s.report_cases slot r kind source time zone <;> rw [heq]
  · rfl
  · obtain ⟨q, hq, -, heq⟩ | ⟨-, heq⟩ := s.flagPending_cases slot <;> rw [heq]
    exact Table.slotsHeldBy_set (q := { q with pendingReport := true }) hq rfl

/-- The end of one lane's hold leaves the holds of the others. -/
theorem State.HoldEnds.slotsHeldBy {s u : State} {slot : Nat} {r : Record} {h : Hold} {n : Lane}
    (hends : s.HoldEnds slot r h u) (hr : s.table.get? slot = some r) (hstate : r.state = .held h)
    (hn : h.lane ≠ n) : u.table.slotsHeldBy n = s.table.slotsHeldBy n := by
  have hwritten {q : Record} (hq : r.Ended h q) : (s.table.set slot q).slotsHeldBy n = s.table.slotsHeldBy n := by
    refine Table.slotsHeldBy_set hr ?_
    rw [hq.unheld, (r.hold?_eq_some h).mpr hstate]
    simp [hn]
  cases hends with
  | silent q zs hq _ => exact hwritten hq
  | reported q zs kind source time zone hq _ _ => exact (State.report_slotsHeldBy ..).trans (hwritten hq)

/-- The reset's end of a held slot. -/
theorem State.endByReset_of_held {s : State} {slot : Nat} {r : Record} {h : Hold}
    (hr : s.table.get? slot = some r) (hstate : r.state = .held h) :
    s.endByReset slot = s.endNonCommit slot r h s.clock.time := by
  simp only [State.endByReset, hr, (r.hold?_eq_some h).mpr hstate]

theorem State.endByReset_slotsHeldBy {s : State} {slot : Nat} {n : Lane}
    (hslot : ∀ r h, s.table.get? slot = some r → r.state = .held h → h.lane ≠ n) :
    (s.endByReset slot).table.slotsHeldBy n = s.table.slotsHeldBy n := by
  unfold State.endByReset
  split
  · rename_i r hr
    split
    · rename_i h hh
      have hstate := (r.hold?_eq_some h).mp hh
      exact (s.endNonCommit_holdEnds slot r h _).slotsHeldBy hr hstate (hslot r h hr hstate)
    · rfl
  · rfl

end Sys2Proof.Machine
end

section
/-! What a warm reset makes of the holds: one run over all of them, entry by entry (R40, R97, R105, R159). -/

namespace Sys2Proof.Machine

/-! ### One run over all holds -/

/-- No hold appears (R105). -/
def State.NoNewHold (s t : State) : Prop :=
  ∀ (k : Nat) (q : Record) (h : Hold), t.table.get? k = some q → q.state = .held h →
    ∃ r, s.table.get? k = some r ∧ r.state = .held h

theorem State.NoNewHold.refl (s : State) : s.NoNewHold s := fun _ q _ hq hstate => ⟨q, hq, hstate⟩

theorem State.NoNewHold.trans {s t u : State} (h : s.NoNewHold t) (h' : t.NoNewHold u) : s.NoNewHold u := by
  intro k p x hp hstate
  obtain ⟨q, hq, hqstate⟩ := h' k p x hp hstate
  exact h k q x hq hqstate

theorem State.NoNewHold.write {s t : State} {slot : Nat} {r q : Record} (hr : s.table.get? slot = some r)
    (hq : ∀ h, q.state = .held h → r.state = .held h) (htable : t.table = s.table.set slot q) :
    s.NoNewHold t := by
  intro k p h hp hstate
  rw [htable, Table.get?_set] at hp
  split at hp
  · rename_i hk
    subst hk
    rw [hr] at hp
    cases hp
    exact ⟨r, hr, hq h hstate⟩
  · exact ⟨p, hp, hstate⟩

theorem State.NoNewHold.report (s : State) (slot : Nat) (r : Record) (kind : Kind) (source : Source)
    (time : VenueTime) (zone : ZoneNo) : s.NoNewHold (s.report slot r kind source time zone) := by
  obtain ⟨-, heq⟩ | ⟨-, heq⟩ := s.report_cases slot r kind source time zone <;> rw [heq]
  · exact .refl s
  · obtain ⟨q, hq, -, heq⟩ | ⟨-, heq⟩ := s.flagPending_cases slot <;> rw [heq]
    · exact .write (q := { q with pendingReport := true }) hq (fun _ h => h) rfl
    · exact .refl s

theorem State.HoldEnds.noNewHold {s u : State} {slot : Nat} {r : Record} {h : Hold}
    (hends : s.HoldEnds slot r h u) (hr : s.table.get? slot = some r) : s.NoNewHold u := by
  have hwritten {q : Record} (hq : r.Ended h q) (zs : Vector ZoneRecord 16) :
      s.NoNewHold (s.rewrite slot q zs) := by
    refine .write hr (fun x hx => ?_) rfl
    have hunheld := hq.unheld
    rw [(q.hold?_eq_some x).mpr hx] at hunheld
    cases hunheld
  cases hends with
  | silent q zs hq _ => exact hwritten hq zs
  | reported q zs kind source time zone hq _ _ => exact (hwritten hq zs).trans (.report _ slot q kind source time zone)

theorem State.endByReset_noNewHold (s : State) (slot : Nat) : s.NoNewHold (s.endByReset slot) := by
  unfold State.endByReset
  split
  · rename_i r hr
    split
    · exact (s.endNonCommit_holdEnds slot r _ _).noNewHold hr
    · exact .refl s
  · exact .refl s

/-- Ending one lane's holds leaves the slots that another lane holds. -/
theorem State.foldl_endByReset_slotsHeldBy {m n : Lane} (hne : n ≠ m) (l : List Nat) (s : State)
    (hl : ∀ k ∈ l, ∀ r h, s.table.get? k = some r → r.state = .held h → h.lane = n) :
    (l.foldl State.endByReset s).table.slotsHeldBy m = s.table.slotsHeldBy m := by
  induction l generalizing s with
  | nil => rfl
  | cons k l ih =>
    have hkept := s.endByReset_noNewHold k
    rw [List.foldl_cons, ih]
    · exact State.endByReset_slotsHeldBy fun r h hr hstate => by
        rw [hl k List.mem_cons_self r h hr hstate]; exact hne
    · intro j hj q h hq hstate
      obtain ⟨r, hr, hrstate⟩ := hkept j q h hq hstate
      exact hl j (List.mem_cons_of_mem _ hj) r h hr hrstate

theorem State.report_wf {s : State} (h : s.table.wf = true) (slot : Nat) (r : Record) (kind : Kind)
    (source : Source) (time : VenueTime) (zone : ZoneNo) :
    (s.report slot r kind source time zone).table.wf = true := by
  obtain ⟨-, heq⟩ | ⟨-, heq⟩ := s.report_cases slot r kind source time zone <;> rw [heq]
  · exact h
  · obtain ⟨q, -, -, heq⟩ | ⟨-, heq⟩ := s.flagPending_cases slot <;> rw [heq]
    · exact Table.wf_set h slot _
    · exact h

theorem State.HoldEnds.wf {s u : State} {slot : Nat} {r : Record} {h : Hold} (hends : s.HoldEnds slot r h u)
    (hwf : s.table.wf = true) : u.table.wf = true := by
  cases hends with
  | silent q zs _ _ => exact Table.wf_set hwf slot q
  | reported q zs kind source time zone _ _ _ =>
    exact State.report_wf (s := s.rewrite slot q zs) (Table.wf_set hwf slot q) slot q kind source time zone

theorem State.endByReset_wf (s : State) (slot : Nat) (hwf : s.table.wf = true) :
    (s.endByReset slot).table.wf = true := by
  unfold State.endByReset
  split
  · split
    · exact (s.endNonCommit_holdEnds slot _ _ _).wf hwf
    · exact hwf
  · exact hwf

/-- The ends of all holds are one run over the slots of all holds, in the order of the lanes (R40). -/
theorem State.endAllHolds_eq {s : State} (hwf : s.table.wf = true) :
    s.endAllHolds = (s.allHolds.map Prod.fst).foldl State.endByReset s := by
  have hwfRun (l : List Nat) (u : State) (hu : u.table.wf = true) : (l.foldl State.endByReset u).table.wf = true := by
    induction l generalizing u with
    | nil => exact hu
    | cons k l ih => exact ih _ (u.endByReset_wf k hu)
  have hlanes (l : List Lane) (hl : l.Nodup) (u : State) (hu : u.table.wf = true) :
      l.foldl (fun s n => (s.table.slotsHeldBy n).foldl State.endByReset s) u
        = (l.flatMap u.table.slotsHeldBy).foldl State.endByReset u := by
    induction l generalizing u with
    | nil => rfl
    | cons n l ih =>
      obtain ⟨hn, hl⟩ := List.nodup_cons.mp hl
      rw [List.foldl_cons, ih hl _ (hwfRun _ u hu), List.flatMap_cons, List.foldl_append]
      congr 1
      refine List.flatMap_congr fun m hm => State.foldl_endByReset_slotsHeldBy (n := n) ?_ _ _ ?_
      · rintro rfl; exact hn hm
      · intro k hk r h hr hstate
        rw [Table.slotsHeldBy_eq] at hk
        obtain ⟨x, hx, rfl⟩ := List.mem_map.mp hk
        obtain ⟨hmem, hxstate, hlane⟩ := Table.mem_holdsOf.mp hx
        rw [(Table.get?_iff_mem hu).mpr hmem] at hr
        cases hr
        rw [hxstate, RecordState.held.injEq] at hstate
        rw [← hstate, hlane]
  have hslots : s.allHolds.map Prod.fst = lanesAscending.flatMap s.table.slotsHeldBy := by
    rw [State.allHolds, List.map_flatMap]
    exact List.flatMap_congr fun n _ => (Table.slotsHeldBy_eq _ n).symm
  rw [hslots]
  exact hlanes lanesAscending (by decide) s hwf

/-! ### One hold's end -/

/-- The journal's free places (R153). -/
def State.room (s : State) : Nat := 1024 - s.journal.length

/-- What the end of one hold changes outside its own slot: nothing but the zones' reserved counts, the journal and the
reports owed (R97, R101). -/
structure State.EndFrame (s t : State) : Prop where
  frame : t = { s with
    table := t.table, zones := t.zones, pendingCount := t.pendingCount, journal := t.journal, nextSeq := t.nextSeq,
    attn := t.attn }
  zones : ∀ z : ZoneNo, { t.zones.get z with reserved := 0 } = { s.zones.get z with reserved := 0 }

theorem State.EndFrame.refl (s : State) : s.EndFrame s := ⟨rfl, fun _ => rfl⟩

theorem State.EndFrame.trans {s t u : State} (h : s.EndFrame t) (h' : t.EndFrame u) : s.EndFrame u where
  frame := by rw [h'.frame, h.frame]
  zones := fun z => (h'.zones z).trans (h.zones z)

/-- The CONFLICT entry names the record as the end leaves it (R97, R101, R156). -/
theorem State.conflictEntry_eq (s : State) (sequence : BitVec 16) (r : Record) (h : Hold) {m : RemoteMark}
    (hd : h.direction = .IN) (hm : h.remoteMark = some m) :
    s.conflictEntry sequence r h =
      ⟨sequence, .conflict, .lane h.lane, s.clock.time,
        some ((r.afterNonCommit h).fields (h.reservedZone.getD (s.zoneOf r)))⟩ := by
  cases hrevoked : h.revokeMark <;>
    simp [State.conflictEntry, Record.afterNonCommit, Record.fields, Record.reportedState, State.zoneOf, State.classOf,
      RecordState.name, hd, hm, hrevoked]

/-- The end by a reset of the hold in a slot: the record; and for a marked hold the CONFLICT entry, or, with the journal
full, the report owed. -/
theorem State.endByReset_spec {s : State} {k : Nat} {r : Record} {h : Hold} (hr : s.table.get? k = some r)
    (hstate : r.state = .held h) {u : State} (hu : s.endByReset k = u) :
    s.EndFrame u ∧ (∀ j, j ≠ k → u.table.get? j = s.table.get? j) ∧
      ((markedHold (k, r, h) = false ∧ u.table.get? k = some (r.afterNonCommit h) ∧ u.journal = s.journal ∧
          u.nextSeq = s.nextSeq ∧ u.pendingCount = s.pendingCount) ∨
        (markedHold (k, r, h) = true ∧ 0 < s.room ∧ u.table.get? k = some (r.afterNonCommit h) ∧
          u.journal = s.journal ++ [s.conflictEntry s.nextSeq r h] ∧ u.nextSeq = s.nextSeq + 1 ∧
          u.pendingCount = s.pendingCount) ∨
        (markedHold (k, r, h) = true ∧ s.room = 0 ∧
          u.table.get? k = some { r.afterNonCommit h with pendingReport := true } ∧ u.journal = s.journal ∧
          u.nextSeq = s.nextSeq ∧
          u.pendingCount = s.pendingCount + if r.pendingReport = false then 1 else 0)) := by
  rw [State.endByReset_of_held hr hstate] at hu
  obtain ⟨w, hw, hcases⟩ := s.endNonCommit_cases k r h s.clock.time
  obtain ⟨hframe, hzones⟩ := State.modifyReservedZone_eq (s.setRecord k (r.afterNonCommit h)) h ZoneRecord.release
  rw [hw] at hframe hzones
  have hwframe : s.EndFrame w := by
    refine ⟨by rw [hframe]; rfl, fun z => ?_⟩
    rw [hzones z]
    split <;> rfl
  have hwtable : w.table = s.table.set k (r.afterNonCommit h) := by rw [hframe]; rfl
  have hwget : w.table.get? k = some (r.afterNonCommit h) := by rw [hwtable, Table.get?_set, if_pos rfl, hr]; rfl
  have hwother (j : Nat) (hj : j ≠ k) : w.table.get? j = s.table.get? j := by
    rw [hwtable, Table.get?_set, if_neg (Ne.symm hj)]
  have hwjournal : w.journal = s.journal := by rw [hframe]; rfl
  have hwseq : w.nextSeq = s.nextSeq := by rw [hframe]; rfl
  have hwcount : w.pendingCount = s.pendingCount := by rw [hframe]; rfl
  obtain ⟨-, hcls, -, hpending⟩ := r.afterNonCommit_frame h
  obtain ⟨m, hd, hm, hend⟩ | ⟨hplain, hend⟩ := hcases
  · have hmarked : markedHold (k, r, h) = true := by simp [markedHold, hd, hm]
    have hzone : w.zoneOf (r.afterNonCommit h) = s.zoneOf r := by
      rw [hframe, State.zoneOf, State.classOf, hcls]; rfl
    rw [hu, hzone] at hend
    obtain ⟨hroom, heq⟩ | ⟨hfull, heq⟩ := w.report_cases k (r.afterNonCommit h) .conflict (.lane h.lane) s.clock.time
      (h.reservedZone.getD (s.zoneOf r)) <;> rw [heq] at hend
    · have hentry := s.conflictEntry_eq s.nextSeq r h hd hm
      subst hend
      refine ⟨hwframe.trans ⟨rfl, fun _ => rfl⟩, hwother, .inr (.inl ⟨hmarked, ?_, hwget, ?_, ?_, hwcount⟩)⟩
      · rw [hwjournal, Config.journalCapacity] at hroom
        simp only [State.room]
        omega
      · rw [State.append_journal, hwjournal, hwseq, hentry]
      · rw [State.append_nextSeq, hwseq]
    · have hnone : s.room = 0 := by
        rw [hwjournal, Config.journalCapacity] at hfull
        simp only [State.room]
        omega
      obtain ⟨q, hq, hclear, heq⟩ | ⟨hflagged, heq⟩ := w.flagPending_cases k <;> rw [heq] at hend <;> subst hend
      · rw [hwget] at hq
        cases hq
        rw [hpending] at hclear
        refine ⟨hwframe.trans ⟨rfl, fun _ => rfl⟩, fun j hj => ?_,
          .inr (.inr ⟨hmarked, hnone, ?_, hwjournal, hwseq, ?_⟩)⟩
        · exact (Table.get?_set _ _ _ _).trans (by rw [if_neg (Ne.symm hj)]; exact hwother j hj)
        · exact (Table.get?_set _ _ _ _).trans (by rw [if_pos rfl, hwget]; rfl)
        · rw [hclear, if_pos rfl, ← hwcount]; rfl
      · have hset := hflagged _ hwget
        rw [hpending] at hset
        refine ⟨hwframe, hwother, .inr (.inr ⟨hmarked, hnone, ?_, hwjournal, hwseq, ?_⟩)⟩
        · rw [hwget, ← hset, ← hpending]
        · rw [hset, hwcount]; rfl
  · have hmarked : markedHold (k, r, h) = false := by
      obtain hd | hm := hplain <;> simp [markedHold, *]
    rw [hu] at hend
    subst hend
    exact ⟨hwframe, hwother, .inl ⟨hmarked, hwget, hwjournal, hwseq, hwcount⟩⟩

end Sys2Proof.Machine
end

section
/-! WARM_RESET in full: the run over all holds, and what is kept and cleared. -/

namespace Sys2Proof.Machine

/-! ### The run over all holds -/

/-- The marked holds of a run whose CONFLICT entries have room (R97, R159). -/
def State.reportedOf (s : State) (l : List (Nat × Record × Hold)) : List (Nat × Record × Hold) :=
  (l.filter markedHold).take s.room

/-- The marked holds of a run whose records are left owing a report (R159). -/
def State.owingOf (s : State) (l : List (Nat × Record × Hold)) : List (Nat × Record × Hold) :=
  (l.filter markedHold).drop s.room

/-- What a run of ends by a reset leaves: each hold's record, every other record, the CONFLICT entries and the reports
owed (R40, R97, R105, R159). -/
structure State.EndsHolds (s t : State) (l : List (Nat × Record × Hold)) : Prop where
  outside : s.EndFrame t
  ended : ∀ x ∈ l, t.table.get? x.1 = some
    { x.2.1.afterNonCommit x.2.2 with
      pendingReport := x.2.1.pendingReport || (s.owingOf l).any fun y => y.1 = x.1 }
  others : ∀ k, (∀ x ∈ l, x.1 ≠ k) → t.table.get? k = s.table.get? k
  journal : t.journal = s.journal ++ (s.reportedOf l).mapIdx fun i x =>
    s.conflictEntry (s.nextSeq + BitVec.ofNat 16 i) x.2.1 x.2.2
  nextSeq : t.nextSeq = s.nextSeq + BitVec.ofNat 16 (s.reportedOf l).length
  pendingCount : t.pendingCount
    = s.pendingCount + ((s.owingOf l).filter fun x => x.2.1.pendingReport = false).length

section
variable {s u : State} {x : Nat × Record × Hold} {l : List (Nat × Record × Hold)}

theorem State.room_of_journal (h : u.journal = s.journal) : u.room = s.room := by rw [State.room, State.room, h]

theorem State.runs_of_unmarked (hx : markedHold x = false) (hroom : u.room = s.room) :
    s.reportedOf (x :: l) = u.reportedOf l ∧ s.owingOf (x :: l) = u.owingOf l := by
  simp only [State.reportedOf, State.owingOf, hroom, List.filter_cons, hx, Bool.false_eq_true, if_false, and_self]

theorem State.runs_of_reported (hx : markedHold x = true) (hroom : s.room = u.room + 1) :
    s.reportedOf (x :: l) = x :: u.reportedOf l ∧ s.owingOf (x :: l) = u.owingOf l := by
  simp only [State.reportedOf, State.owingOf, hroom, List.filter_cons, hx, if_true, List.take_succ_cons,
    List.drop_succ_cons, and_self]

theorem State.runs_of_owed (hx : markedHold x = true) (hroom : s.room = 0) (hroom' : u.room = 0) :
    s.reportedOf (x :: l) = u.reportedOf l ∧ s.owingOf (x :: l) = x :: u.owingOf l := by
  simp only [State.reportedOf, State.owingOf, hroom, hroom', List.filter_cons, hx, if_true, List.take_zero,
    List.drop_zero, and_self]

theorem State.owingOf_subset : s.owingOf l ⊆ l := fun _ h =>
  List.mem_of_mem_filter (List.mem_of_mem_drop h)

/-- A slot that no hold of a run has is none of those that owe a report after it. -/
theorem State.owingOf_any_eq_false {k : Nat} (hk : ∀ y ∈ l, y.1 ≠ k) :
    ((s.owingOf l).any fun y => y.1 = k) = false := by
  rw [List.any_eq_false]
  intro y hy
  simpa using hk y (State.owingOf_subset hy)

/-- The numbers of a run's later entries follow on. -/
theorem sequence_succ (v : BitVec 16) (i : Nat) : v + 1 + BitVec.ofNat 16 i = v + BitVec.ofNat 16 (i + 1) := by
  apply BitVec.eq_of_toNat_eq
  have hone : (1 : BitVec 16).toNat = 1 := rfl
  simp only [BitVec.toNat_add, BitVec.toNat_ofNat, hone]
  omega

theorem State.EndFrame.conflictEntry (h : s.EndFrame u) (v : BitVec 16) (r : Record) (y : Hold) :
    u.conflictEntry v r y = s.conflictEntry v r y := by
  rw [h.frame]
  rfl

/-- The first end of a run, and the run after it. -/
theorem State.EndsHolds.cons {t : State} (hr : s.table.get? x.1 = some x.2.1) (hstate : x.2.1.state = .held x.2.2)
    (hslots : ∀ y ∈ l, y.1 ≠ x.1) (hu : s.endByReset x.1 = u) (hrest : u.EndsHolds t l) :
    s.EndsHolds t (x :: l) := by
  obtain ⟨k, r, h⟩ := x
  obtain ⟨hframe, hother, hcases⟩ := State.endByReset_spec hr hstate hu
  have hfirst : t.table.get? k = u.table.get? k := hrest.others k hslots
  have hnot : ((u.owingOf l).any fun y => y.1 = k) = false := State.owingOf_any_eq_false hslots
  obtain ⟨-, -, -, hpending⟩ := r.afterNonCommit_frame h
  have hothers (j : Nat) (hj : ∀ y ∈ (k, r, h) :: l, y.1 ≠ j) : t.table.get? j = s.table.get? j := by
    rw [hrest.others j fun y hy => hj y (List.mem_cons_of_mem _ hy)]
    exact hother j (Ne.symm (hj _ List.mem_cons_self))
  obtain ⟨hplain, hget, hjournal, hseq, hcount⟩ | ⟨hmarked, hroom, hget, hjournal, hseq, hcount⟩ |
    ⟨hmarked, hroom, hget, hjournal, hseq, hcount⟩ := hcases
  · obtain ⟨hreported, howing⟩ := State.runs_of_unmarked (l := l) hplain (State.room_of_journal hjournal)
    refine ⟨hframe.trans hrest.outside, fun y hy => ?_, hothers, ?_, ?_, ?_⟩
    · rw [howing]
      obtain rfl | hy := List.mem_cons.mp hy
      · rw [hfirst, hget, hnot, Bool.or_false, ← hpending]
      · exact hrest.ended y hy
    · rw [hrest.journal, hreported, hjournal, hseq]
      simp only [hframe.conflictEntry]
    · rw [hrest.nextSeq, hreported, hseq]
    · rw [hrest.pendingCount, howing, hcount]
  · have hroom' : s.room = u.room + 1 := by
      simp only [State.room, hjournal, List.length_append, List.length_singleton] at hroom ⊢
      omega
    obtain ⟨hreported, howing⟩ := State.runs_of_reported (l := l) hmarked hroom'
    refine ⟨hframe.trans hrest.outside, fun y hy => ?_, hothers, ?_, ?_, ?_⟩
    · rw [howing]
      obtain rfl | hy := List.mem_cons.mp hy
      · rw [hfirst, hget, hnot, Bool.or_false, ← hpending]
      · exact hrest.ended y hy
    · rw [hrest.journal, hreported, hjournal, hseq, List.mapIdx_cons, List.append_assoc, List.singleton_append]
      have hzero : s.nextSeq + BitVec.ofNat 16 0 = s.nextSeq := BitVec.add_zero _
      simp only [hframe.conflictEntry, sequence_succ, hzero]
    · rw [hrest.nextSeq, hreported, hseq, List.length_cons, sequence_succ]
    · rw [hrest.pendingCount, howing, hcount]
  · obtain ⟨hreported, howing⟩ :=
      State.runs_of_owed (l := l) hmarked hroom ((State.room_of_journal hjournal).trans hroom)
    refine ⟨hframe.trans hrest.outside, fun y hy => ?_, hothers, ?_, ?_, ?_⟩
    · rw [howing, List.any_cons]
      obtain rfl | hy := List.mem_cons.mp hy
      · rw [hfirst, hget]; simp
      · have hne : ¬k = y.1 := Ne.symm (hslots y hy)
        simp only [hne, decide_false, Bool.false_or]
        exact hrest.ended y hy
    · rw [hrest.journal, hreported, hjournal, hseq]
      simp only [hframe.conflictEntry]
    · rw [hrest.nextSeq, hreported, hseq]
    · rw [hrest.pendingCount, howing, hcount, List.filter_cons]
      cases r.pendingReport <;> simp [Nat.add_assoc, Nat.add_comm]

end

/-- A run of ends by a reset over holds in distinct slots. -/
theorem State.endsHolds_foldl (l : List (Nat × Record × Hold)) (s : State) (hslots : (l.map Prod.fst).Nodup)
    (hheld : ∀ x ∈ l, s.table.get? x.1 = some x.2.1 ∧ x.2.1.state = .held x.2.2) :
    s.EndsHolds ((l.map Prod.fst).foldl State.endByReset s) l := by
  induction l generalizing s with
  | nil =>
    refine ⟨.refl s, fun x hx => absurd hx List.not_mem_nil, fun _ _ => rfl, ?_, ?_, ?_⟩
    · simp [State.reportedOf]
    · simp [State.reportedOf]
    · simp [State.owingOf]
  | cons x l ih =>
    rw [List.map_cons, List.nodup_cons] at hslots
    obtain ⟨hx, hslots⟩ := hslots
    have hne : ∀ y ∈ l, y.1 ≠ x.1 := fun y hy heq => hx (List.mem_map.mpr ⟨y, hy, heq⟩)
    obtain ⟨hr, hstate⟩ := hheld x List.mem_cons_self
    obtain ⟨-, hother, -⟩ := State.endByReset_spec hr hstate rfl
    refine State.EndsHolds.cons hr hstate hne rfl (ih _ hslots fun y hy => ?_)
    rw [hother y.1 (hne y hy)]
    exact hheld y (List.mem_cons_of_mem _ hy)

/-- The ends of all holds (R40, R105). -/
theorem State.endsHolds_endAllHolds {s : State} (hwf : s.table.wf = true) :
    s.EndsHolds s.endAllHolds s.allHolds := by
  rw [State.endAllHolds_eq hwf]
  refine State.endsHolds_foldl _ s (State.allHolds_slots_nodup hwf) fun x hx => ?_
  obtain ⟨hmem, hstate⟩ := State.mem_allHolds.mp hx
  exact ⟨(Table.get?_iff_mem hwf).mpr hmem, hstate⟩

/-- After the ends of all holds, the record of an occupied slot: as before without a hold, ended with one. -/
theorem State.endAllHolds_get? {s : State} (hwf : s.table.wf = true) {slot : Nat} {r : Record}
    (hr : s.table.get? slot = some r) :
    s.endAllHolds.table.get? slot = some
      (match r.hold? with
      | none => r
      | some h =>
        { r.afterNonCommit h with
          pendingReport := r.pendingReport || (s.owingOf s.allHolds).any fun x => x.1 = slot }) := by
  have hends := State.endsHolds_endAllHolds hwf
  cases hh : r.hold? with
  | some h =>
    exact hends.ended (slot, r, h) (State.mem_allHolds.mpr ⟨Table.get?_mem hr, (r.hold?_eq_some h).mp hh⟩)
  | none =>
    rw [hends.others slot, hr]
    rintro ⟨k, q, h⟩ hx rfl
    obtain ⟨hmem, hstate⟩ := State.mem_allHolds.mp hx
    have hq := (Table.get?_iff_mem hwf).mpr hmem
    rw [hr] at hq
    cases hq
    rw [(q.hold?_eq_some h).mpr hstate] at hh
    cases hh

theorem State.endAllHolds_get?_none {s : State} (hwf : s.table.wf = true) {slot : Nat}
    (hr : s.table.get? slot = none) : s.endAllHolds.table.get? slot = none := by
  rw [(State.endsHolds_endAllHolds hwf).others slot, hr]
  rintro ⟨k, q, h⟩ hx rfl
  obtain ⟨hmem, -⟩ := State.mem_allHolds.mp hx
  rw [(Table.get?_iff_mem hwf).mpr hmem] at hr
  cases hr

/-! ### The rest of the part -/

/-- The ends of all holds touch the table, the reserved counts, the journal and the reports owed alone (R97). -/
theorem State.endAllHolds_frame {s : State} (hwf : s.table.wf = true) : s.EndFrame s.endAllHolds :=
  (State.endsHolds_endAllHolds hwf).outside

theorem get_zipWith {α β γ : Type} {k : Nat} (f : α → β → γ) (v : Vector α k) (w : Vector β k) (n : Fin k) :
    (Vector.zipWith f v w).get n = f (v.get n) (w.get n) := by
  simp [Vector.get_eq_getElem]

/-- A lane unit after a warm reset, in full (R126, R136). -/
theorem LaneUnit.warmReset_eq (lu : LaneUnit) (pair : EncoderPair) (evac : Bool) :
    lu.warmReset pair evac =
      { role := lu.role
        state := if evac then .free else if lu.role = .off then .closed else .locked
        hold := none, completion := none, accumulator := 0, counted := false
        reference := pair, armTimer := none, overdue := false
        live := lu.preload, preload := lu.preload, forcedReports := 0, tallies := lu.tallies
        lockIn := evac
        lockOut := evac || lu.role == .freeExit } := by
  rw [LaneUnit.warmReset, LaneUnit.goTo_eq_inState]
  cases evac <;> cases lu.role <;>
    simp [LaneUnit.inState, Role.restingState, LaneState.releasesIn, LaneState.releasesOut]

/-- The Gate Controller after a warm reset, in full (R180). -/
theorem GateController.warmReset_eq (g : GateController) (evac : Bool) :
    g.warmReset evac =
      { gate := if evac then .evac else .closed, accepted := evac, previousSample := evac, evacDue := false
        gateId := g.gateId, eventCode := g.eventCode, link := .offline, monitorCount := 0, timeoutDue := false
        linkTimeout := g.linkTimeout
        events :=
          (let changed :=
            if evac = true ∧ g.gate ≠ .evac then eventsAfter g.events .evacBegin
            else if evac = false ∧ g.gate = .evac then eventsAfter g.events .evacEnd
            else g.events
          if g.link = .online then eventsAfter changed .linkLost else changed)
        resetCause := .warm } := by
  cases evac <;> cases hgate : g.gate <;> cases hlink : g.link <;>
    simp [GateController.warmReset, GateController.raiseEvacChange, GateController.dropLink, gateAfterReset,
      GateController.raise_eq, hgate, hlink]

theorem Port.warmReset_eq (p : Port) :
    (p.warmReset).request = .empty ∧ (p.warmReset).reply = none ∧ (p.warmReset).overrun = false ∧
      (p.warmReset).ready = false ∧
      (p.warmReset).transfer = if p.transfer = .none then .none else .ignored := by
  refine ⟨rfl, rfl, rfl, rfl, ?_⟩
  cases h : p.transfer <;> simp [Port.warmReset, Transfer.interrupt, h]

/-! ### What is due is taken first -/

/-- The arm timer expiries of a list of lanes, taken by their commands (R125). -/
theorem runCommands_expiries (l : List Lane) {s : State} (hrst : s.rstAsserted = false) (rest : List Instr) :
    runCommands (l.map .armTimerExpiry ++ rest) s = runCommands rest (l.foldl State.settleExpiry s) := by
  induction l generalizing s with
  | nil => rfl
  | cons n l ih =>
    have hexec : exec (.armTimerExpiry n) s = .next (s.settleExpiry n) := by
      simp [exec, execArmTimerExpiry, hrst]
    rw [List.map_cons, List.cons_append, runCommands_cons_of_next hexec,
      ih (State.settleExpiry_effects s n hrst).2, List.foldl_cons]

/-- A change of EVAC that is due, taken by its command (R172). -/
theorem runCommands_evac {s : State} (hrst : s.rstAsserted = false) :
    runCommands [.evacAssertion, .evacRelease] s = .next s.settleEvac := by
  cases hdue : s.gc.evacDue <;> cases haccepted : s.gc.accepted <;>
    simp [runCommands, exec, execEvacAssertion, execEvacRelease, State.settleEvac, State.evacAssertionDue,
      State.evacReleaseDue, hrst, hdue, haccepted, State.assertEvac, GateController.raise_eq]

/-- The due commands, one after another, take what is due. -/
theorem runCommands_dueCommands {s : State} (hrst : s.rstAsserted = false) :
    runCommands dueCommands s = .next s.settleDue := by
  have hfold := (State.Effects.foldl State.settleExpiry_effects lanesAscending s hrst).2
  have htimeout : exec .linkMonitorTimeout (lanesAscending.foldl State.settleExpiry s)
      = .next (lanesAscending.foldl State.settleExpiry s).settleTimeout := by
    simp [exec, execLinkMonitorTimeout, hfold]
  rw [dueCommands, runCommands_expiries _ hrst, runCommands_cons_of_next htimeout,
    runCommands_evac (by rw [State.settleTimeout_rstAsserted, hfold])]
  rfl

/-- A frame's arrival and the due commands take all that a reset takes first. -/
theorem runCommands_settleAll {s : State} (hrst : s.rstAsserted = false) :
    runCommands (.uplinkFrameArrival :: dueCommands) s = .next s.settleAll := by
  have harrive : exec .uplinkFrameArrival s = .next s.arrive := by
    simp [exec, execUplinkFrameArrival, hrst]
  rw [runCommands_cons_of_next harrive, runCommands_dueCommands (s.arrive_effects.2.trans hrst)]
  rfl

/-- What settling what is due leaves alone. -/
structure State.SettleFrame (s t : State) : Prop where
  table : t.table = s.table
  warmResetDue : t.warmResetDue = s.warmResetDue
  rstAsserted : t.rstAsserted = s.rstAsserted

theorem State.SettleFrame.trans {s t u : State} (h : s.SettleFrame t) (h' : t.SettleFrame u) : s.SettleFrame u :=
  ⟨h'.table.trans h.table, h'.warmResetDue.trans h.warmResetDue, h'.rstAsserted.trans h.rstAsserted⟩

theorem State.settleExpiry_frame (s : State) (n : Lane) :
    s.SettleFrame (s.settleExpiry n) ∧ (s.settleExpiry n).uplink = s.uplink := by
  unfold State.settleExpiry
  split <;> exact ⟨⟨rfl, rfl, rfl⟩, rfl⟩

theorem State.foldl_settleExpiry_frame (l : List Lane) (s : State) :
    s.SettleFrame (l.foldl State.settleExpiry s) ∧ (l.foldl State.settleExpiry s).uplink = s.uplink := by
  induction l generalizing s with
  | nil => exact ⟨⟨rfl, rfl, rfl⟩, rfl⟩
  | cons n l ih =>
    obtain ⟨hframe, huplink⟩ := s.settleExpiry_frame n
    obtain ⟨hframe', huplink'⟩ := ih (s.settleExpiry n)
    exact ⟨hframe.trans hframe', huplink'.trans huplink⟩

theorem State.settleTimeout_frame (s : State) :
    s.SettleFrame s.settleTimeout ∧ s.settleTimeout.uplink = s.uplink ∧ s.settleTimeout.lanes = s.lanes ∧
      s.settleTimeout.gc.timeoutDue = false := by
  unfold State.settleTimeout
  split
  · exact ⟨⟨rfl, rfl, rfl⟩, rfl, rfl, rfl⟩
  · rename_i h; exact ⟨⟨rfl, rfl, rfl⟩, rfl, rfl, by simpa using h⟩

theorem State.settleEvac_frame (s : State) :
    s.SettleFrame s.settleEvac ∧ s.settleEvac.uplink = s.uplink ∧
      s.settleEvac.gc.timeoutDue = s.gc.timeoutDue := by
  unfold State.settleEvac
  split
  · exact ⟨⟨rfl, rfl, rfl⟩, rfl, rfl⟩
  · split <;> exact ⟨⟨rfl, rfl, rfl⟩, rfl, rfl⟩

theorem State.settleEvac_evacDue {s : State} (hrst : s.rstAsserted = false) :
    s.settleEvac.gc.evacDue = false := by
  cases hdue : s.gc.evacDue <;> cases haccepted : s.gc.accepted <;>
    simp [State.settleEvac, State.evacAssertionDue, State.evacReleaseDue, hrst, hdue, haccepted, State.assertEvac,
      State.releaseEvac, GateController.raise_eq]

/-- A change of EVAC starts no arm timer, and none that stands is at 0 (R109, R173). -/
theorem State.settleEvac_armTimer {s : State} (n : Lane) (h : (s.lanes.get n).armTimer ≠ some 0) :
    (s.settleEvac.lanes.get n).armTimer ≠ some 0 := by
  have hfree (lu : LaneUnit) (hlu : lu.armTimer ≠ some 0) : lu.takeFree.armTimer ≠ some 0 := by
    rw [LaneUnit.takeFree_eq]
    split
    · exact fun h => nomatch h
    · exact hlu
  have hunfree (lu : LaneUnit) (hlu : lu.armTimer ≠ some 0) : lu.takeUnfree.armTimer ≠ some 0 := by
    unfold LaneUnit.takeUnfree
    split
    · exact hlu
    · exact hlu
  unfold State.settleEvac
  split
  · rw [State.assertEvac, State.mapLanes_lanes, get_map]; exact hfree _ h
  · split
    · rw [State.releaseEvac, State.mapLanes_lanes, get_map]; exact hunfree _ h
    · exact h

theorem LaneUnit.takeExpiry_armTimer (lu : LaneUnit) : lu.takeExpiry.armTimer = none := by
  unfold LaneUnit.takeExpiry
  split <;> rfl

/-- No expiry is due at a lane whose expiry has been taken, nor at one where none was (R125). -/
theorem State.foldl_settleExpiry_armTimer (l : List Lane) (s : State) (n : Lane)
    (h : n ∈ l ∨ (s.lanes.get n).armTimer ≠ some 0) :
    ((l.foldl State.settleExpiry s).lanes.get n).armTimer ≠ some 0 := by
  induction l generalizing s with
  | nil => exact h.resolve_left List.not_mem_nil
  | cons m l ih =>
    refine ih _ ?_
    unfold State.settleExpiry LaneUnit.expiryDue
    obtain hn | hn := h.imp_left List.mem_cons.mp
    · obtain rfl | hn := hn
      · right
        split
        · simp [LaneUnit.takeExpiry_armTimer]
        · rename_i hnot; simpa using hnot
      · exact .inl hn
    · right
      split
      · rw [State.setLane_lanes, get_set]
        split
        · simp [LaneUnit.takeExpiry_armTimer]
        · exact hn
      · exact hn

theorem State.arrive_complete (s : State) :
    s.SettleFrame s.arrive ∧ s.arrive.uplink.receiver.complete? = none := by
  unfold State.arrive
  split
  · rename_i h; exact ⟨⟨rfl, rfl, rfl⟩, h⟩
  · dsimp only
    split
    · exact ⟨⟨rfl, rfl, rfl⟩, by rw [UplinkPort.takeRequest_receiver]; rfl⟩
    · exact ⟨⟨rfl, rfl, rfl⟩, rfl⟩

/-- Nothing is due once all that is due has been taken. -/
theorem State.settleAll_nothingDue {s : State} (hrst : s.rstAsserted = false) :
    s.SettleFrame s.settleAll ∧ s.settleAll.NothingDue := by
  obtain ⟨harrive, hcomplete⟩ := s.arrive_complete
  obtain ⟨hexpiry, huplink⟩ := State.foldl_settleExpiry_frame lanesAscending s.arrive
  have htimers (n : Lane) := State.foldl_settleExpiry_armTimer lanesAscending s.arrive n (.inl (mem_lanesAscending n))
  have hsettle : s.settleAll = (lanesAscending.foldl State.settleExpiry s.arrive).settleTimeout.settleEvac := rfl
  rw [hsettle]
  generalize lanesAscending.foldl State.settleExpiry s.arrive = u at hexpiry huplink htimers
  obtain ⟨htimeout, huplink', hlanes, hdone⟩ := u.settleTimeout_frame
  obtain ⟨hevac, huplink'', hdone'⟩ := u.settleTimeout.settleEvac_frame
  have hframe := harrive.trans (hexpiry.trans htimeout)
  refine ⟨hframe.trans hevac, ?_, fun n => ?_, hdone'.trans hdone,
    State.settleEvac_evacDue (hframe.rstAsserted.trans hrst)⟩
  · rw [huplink'', huplink', huplink]
    exact hcomplete
  · exact State.settleEvac_armTimer n (by rw [hlanes]; exact htimers n)

end Sys2Proof.Machine

open Sys2Proof Sys2Proof.Machine

/-- Settles O5: the run over all holds says what becomes of the records, the journal and the reports owed, and the rest
of the part is cleared by itself. -/
theorem warmResetKeepsAndClears : Obligations.WarmResetKeepsAndClears := by
  refine ⟨fun pins s t hrst hdue hrun => ?_, fun pins s reported owing hwf hstart hreported howing => ?_⟩
  · rw [runCommands_settleAll hrst] at hrun
    obtain rfl := next_inj hrun
    obtain ⟨hframe, hnothing⟩ := State.settleAll_nothingDue hrst
    have hrst' := hframe.rstAsserted.trans hrst
    have hdue' := hframe.warmResetDue.trans hdue
    refine ⟨?_, hdue', hnothing, hframe.table⟩
    simp only [exec, execWarmReset, hrst, hdue, hrst', hdue', State.settleAll_of_nothing _ hnothing, if_true,
      Bool.false_eq_true, if_false]
  · have hexec : exec (.warmReset pins) s = .next (s.warmReset pins) := by
      obtain hrst | ⟨hdue, hnothing⟩ := hstart
      · simp [exec, execWarmReset, hrst]
      · simp [exec, execWarmReset, hdue, State.settleAll_of_nothing s hnothing]
    have hends := State.endsHolds_endAllHolds hwf
    have hget := fun slot r => State.endAllHolds_get? hwf (slot := slot) (r := r)
    have hfree := fun slot => State.endAllHolds_get?_none hwf (slot := slot)
    have hreported' : s.reportedOf s.allHolds = reported := by
      rw [hreported, State.markedHolds_eq]; rfl
    have howing' : s.owingOf s.allHolds = owing := by
      rw [howing, State.markedHolds_eq]; rfl
    rw [State.warmReset_eq] at hexec
    rw [howing'] at hget
    generalize s.endAllHolds = u at hexec hends hget hfree
    obtain ⟨⟨hframe, hzones⟩, -, -, hjournal, hseq, hcount⟩ := hends
    rw [hreported'] at hjournal hseq
    rw [howing'] at hcount
    have hkept {α : Type} (f : State → α) (hf : f { s with
        table := u.table, zones := u.zones, pendingCount := u.pendingCount, journal := u.journal,
        nextSeq := u.nextSeq, attn := u.attn } = f s) : f u = f s := by
      rw [hframe]; exact hf
    have hpin : u.evacPin = s.evacPin := hkept State.evacPin rfl
    refine ⟨_, hexec, hkept State.classes rfl, hkept State.clock rfl, hkept State.watermark rfl, hpin,
      hkept State.pending rfl, rfl, rfl, rfl, rfl, rfl, rfl, rfl, fun z => ?_, fun n => get_replicate _ n,
      fun n => ⟨_, rfl, ?_⟩, fun n => ?_, rfl, hget, hfree, hjournal, hseq, hcount, ?_, ?_⟩
    · exact (get_map _ _ z).trans (hzones z)
    · refine (get_zipWith _ _ _ n).trans ?_
      rw [hpin, hkept State.lanes rfl]
      exact LaneUnit.warmReset_eq _ _ _
    · rw [← hkept State.ports rfl]
      have hport : (u.clearAtReset pins).ports.get n = (u.ports.get n).warmReset := get_map _ _ n
      rw [hport]
      exact Port.warmReset_eq _
    · have hattn : (u.clearAtReset pins).attn
          = (decide (u.watermark ≤ u.journal.length) || decide (0 < u.pendingCount)) := rfl
      rw [hattn, hkept State.watermark rfl, Bool.decide_or]
      rfl
    · have hgc : (u.clearAtReset pins).gc = u.gc.warmReset u.evacPin := rfl
      rw [hgc, hpin, hkept State.gc rfl]
      exact GateController.warmReset_eq _ _
end

section
/-! The reserved counts of the zones over every effect (R48). -/

namespace Sys2Proof.Machine

/-- The record's hold reserves a place in a zone (R26, R48). -/
def Record.reserves (z : ZoneNo) (r : Record) : Bool := r.hold?.any fun h => h.reservedZone = some z

theorem State.holdsReserving_eq_tally (s : State) (z : ZoneNo) :
    s.holdsReserving z = Table.tally (Record.reserves z) s.table := rfl

theorem Record.reserves_of_unheld {r : Record} (h : r.hold? = none) (z : ZoneNo) : r.reserves z = false := by
  rw [Record.reserves, h]
  rfl

theorem Record.reserves_of_held {r : Record} {h : Hold} (hstate : r.state = .held h) (z : ZoneNo) :
    r.reserves z = decide (h.reservedZone = some z) := by
  rw [Record.reserves, (r.hold?_eq_some h).mpr hstate]
  rfl

/-- A notice or a revocation begins no hold and ends none: it leaves the lane, the direction and the reserved zone of
the one it finds (R142, R149). -/
theorem Record.Noted.hold_cases {r q : Record} (hn : r.Noted q) :
    (r.hold? = none ∧ q.hold? = none) ∨
      ∃ h h', r.state = .held h ∧ q.state = .held h' ∧ h'.lane = h.lane ∧ h'.direction = h.direction ∧
        h'.reservedZone = h.reservedZone := by
  cases hn with
  | admitted x _ hst =>
    refine .inl ⟨Record.hold?_of_state fun y => ?_, rfl⟩
    obtain hst | hst := hst <;> rw [hst] <;> exact RecordState.noConfusion
  | exited c x _ hst =>
    refine .inl ⟨Record.hold?_of_state fun y => ?_, Record.hold?_of_state fun y => ?_⟩
    · rw [hst]
      exact RecordState.noConfusion
    · simp only [Record.exitedElsewhere]
      obtain hs | hs := outsideOrSpent_cases r.entries c.limit <;> rw [hs] <;> exact RecordState.noConfusion
  | revoked hunheld => exact .inl ⟨hunheld, rfl⟩
  | marked h m _ hst _ => exact .inr ⟨h, { h with remoteMark := some m }, hst, rfl, rfl, rfl, rfl⟩
  | revokeMarked h hst => exact .inr ⟨h, { h with revokeMark := true }, hst, rfl, rfl, rfl, rfl⟩

theorem Record.Noted.reserves {r q : Record} (hn : r.Noted q) (z : ZoneNo) : q.reserves z = r.reserves z := by
  obtain ⟨hr, hq⟩ | ⟨h, h', hr, hq, -, -, hzone⟩ := hn.hold_cases
  · rw [Record.reserves_of_unheld hr, Record.reserves_of_unheld hq]
  · rw [Record.reserves_of_held hr, Record.reserves_of_held hq, hzone]

theorem Table.tally_eq_zero {p : Record → Bool} {t : Table} (h : ∀ e ∈ t, p e.2 = false) : Table.tally p t = 0 := by
  rw [Table.tally, List.length_eq_zero_iff, List.filter_eq_nil_iff]
  intro e he
  rw [h e he]
  exact Bool.false_ne_true

/-- No record is HELD once every hold has ended (R40). -/
theorem State.endAllHolds_unheld {s : State} (hwf : s.table.wf = true) :
    ∀ e ∈ s.endAllHolds.table, e.2.hold? = none := by
  have hwf' : s.endAllHolds.table.wf = true :=
    State.endAllHolds_induction (P := fun u => u.table.wf = true) (fun _ _ _ _ _ h _ _ hends => hends.wf h) hwf
  rintro ⟨slot, q⟩ he
  have hq := (Table.get?_iff_mem hwf').mpr he
  cases hr : s.table.get? slot with
  | none =>
    rw [State.endAllHolds_get?_none hwf hr] at hq
    cases hq
  | some r =>
    rw [State.endAllHolds_get? hwf hr] at hq
    rw [← Option.some_inj.mp hq]
    cases hh : r.hold? with
    | none => exact hh
    | some h =>
      have hunheld := Record.Ended.unheld (Record.Ended.withoutPassage (r := r) (h := h))
      exact hunheld

section
variable {s t : State}

theorem State.ReservedOk.of_eq (h : s.ReservedOk) (htable : t.table = s.table)
    (hzones : ReservedAlike s.zones t.zones) : t.ReservedOk := by
  intro z
  rw [hzones z, State.holdsReserving, htable]
  exact h z

/-- A record written, with the reserved counts in step. -/
theorem State.ReservedOk.write (h : s.ReservedOk) {slot : Nat} {r q : Record} (hr : s.table.get? slot = some r)
    (htable : t.table = s.table.set slot q)
    (hzones : ∀ z : ZoneNo, r.reserves z = true → 0 < (s.zones.get z).reserved →
      (t.zones.get z).reserved + 1 = (s.zones.get z).reserved + (q.reserves z).toNat)
    (hzones' : ∀ z : ZoneNo, r.reserves z = false →
      (t.zones.get z).reserved = (s.zones.get z).reserved + (q.reserves z).toNat) : t.ReservedOk := by
  intro z
  have htally := Table.tally_set (Record.reserves z) hr q
  have hs := h z
  rw [State.holdsReserving_eq_tally] at hs ⊢
  rw [htable]
  cases hreserves : r.reserves z with
  | false =>
    have := hzones' z hreserves
    rw [hreserves, Bool.toNat_false] at htally
    omega
  | true =>
    rw [hreserves, Bool.toNat_true] at htally
    have hfreed := Table.tally_set (Record.reserves z) hr { r with state := .revoked }
    rw [hreserves, Bool.toNat_true, Record.reserves_of_unheld (r := { r with state := .revoked }) rfl,
      Bool.toNat_false] at hfreed
    have := hzones z hreserves (by omega)
    omega

/-- A record written with the reservations it had. -/
theorem State.ReservedOk.writeAlike (h : s.ReservedOk) {slot : Nat} {r q : Record}
    (hr : s.table.get? slot = some r) (hq : ∀ z, q.reserves z = r.reserves z)
    (htable : t.table = s.table.set slot q) (hzones : ReservedAlike s.zones t.zones) : t.ReservedOk := by
  refine h.write hr htable (fun z hz _ => ?_) fun z hz => ?_
  · rw [hzones z, hq, hz]; rfl
  · rw [hzones z, hq, hz]; rfl

theorem State.ReservedOk.report (h : s.ReservedOk) (slot : Nat) (q : Record) (kind : Kind) (source : Source)
    (time : VenueTime) (zone : ZoneNo) : (s.report slot q kind source time zone).ReservedOk := by
  obtain ⟨-, heq⟩ | ⟨-, heq⟩ := s.report_cases slot q kind source time zone <;> rw [heq]
  · exact h.of_eq rfl (.refl _)
  · obtain ⟨r, hr, -, heq⟩ | ⟨-, heq⟩ := s.flagPending_cases slot <;> rw [heq]
    · exact h.writeAlike (q := { r with pendingReport := true }) hr (fun _ => rfl) rfl (.refl _)
    · exact h

/-- The end of a hold gives up the place it reserved, and no other (R48, R97). -/
theorem State.ReservedOk.holdEnds (h : s.ReservedOk) {slot : Nat} {r : Record} {x : Hold} (hok : r.Ok)
    (hr : s.table.get? slot = some r) (hstate : r.state = .held x) (hends : s.HoldEnds slot r x t) :
    t.ReservedOk := by
  have hwritten {q : Record} {zs : Vector ZoneRecord 16} (hq : r.Ended x q)
      (hzones : x.Ok → ReservedReleased x s.zones zs) : (s.rewrite slot q zs).ReservedOk := by
    have hzones := hzones (hok.of_held hstate).2
    refine h.write hr rfl (fun z hz hpositive => ?_) fun z hz => ?_
    · have hreleased := hzones z
      rw [Record.reserves_of_held hstate, decide_eq_true_eq] at hz
      rw [if_pos hz] at hreleased
      rw [Record.reserves_of_unheld hq.unheld, Bool.toNat_false]
      exact (congrArg (· + 1) hreleased).trans (Nat.sub_add_cancel hpositive)
    · have hreleased := hzones z
      rw [Record.reserves_of_held hstate, decide_eq_false_iff_not] at hz
      rw [if_neg hz] at hreleased
      rw [Record.reserves_of_unheld hq.unheld, Bool.toNat_false]
      exact hreleased
  cases hends with
  | silent q zs hq hzones => exact hwritten hq hzones
  | reported q zs kind source time zone hq hzones _ =>
    exact (hwritten hq hzones).report slot q kind source time zone

theorem State.ReservedOk.laneWork (h : s.ReservedOk) (htable : s.TableOk) (hrecords : s.RecordsOk) {n : Lane}
    (hwork : s.LaneWork n t) : t.ReservedOk := by
  cases hwork with
  | nothing => exact h
  | refuse => exact h.of_eq rfl (.refl _)
  | poll => exact h.of_eq rfl (.refl _)
  | cancel slot r x u hheld _ hends =>
    obtain ⟨hr, hstate⟩ := State.heldAt_mem hheld
    have hrelocked : (s.setLane n (s.lanes.get n).relock).ReservedOk := h.of_eq rfl (.refl _)
    exact (hrelocked.holdEnds (hrecords.get hr) hr hstate hends).of_eq rfl (.refl _)
  | grant cred slot r huid hdecision =>
    obtain ⟨-, -, ⟨_, -, hlookup⟩, -⟩ := State.checksOfRecord_of_grant hdecision
    have hr := htable.get?_of_mem (Table.lookup_mem hlookup).1
    have hunheld := State.unheld_of_grant hdecision
    obtain ⟨zs, hzones, heq⟩ := s.grantHold_frame n cred slot r
    rw [heq]
    refine h.write (q := { r with state := .held (s.newHold n cred r) }) hr rfl (fun z hz => ?_) fun z _ => ?_
    · rw [Record.reserves_of_unheld hunheld] at hz
      cases hz
    · rw [Record.reserves_of_held rfl]
      refine (hzones z).trans ?_
      split <;> simp [*]

theorem State.ReservedOk.uplinkWork (h : s.ReservedOk) (htable : s.TableOk) (hwork : s.UplinkWork t) :
    t.ReservedOk := by
  cases hwork with
  | nothing => exact h
  | note slot r q zs hmem hq hzones => exact h.writeAlike (htable.get?_of_mem hmem) hq.reserves rfl hzones
  | noteHeld slot r q x zs hmem hq _ hzones => exact h.writeAlike (htable.get?_of_mem hmem) hq.reserves rfl hzones
  | double slot r source time zone => exact h.report slot r .double source time zone
  | doubleHeld slot r x zs source time zone _ _ hzones =>
    have hcounted : State.ReservedOk { s with zones := zs } := h.of_eq rfl hzones
    exact (hcounted.report slot r .double source time zone).of_eq rfl (.refl _)
  | setZone zs hzones => exact h.of_eq rfl hzones
  | _ => exact h.of_eq rfl (.refl _)

theorem State.ReservedOk.warmReset (htable : s.TableOk) (pins : WarmPins) : (s.warmReset pins).ReservedOk := by
  have hunheld := State.endAllHolds_unheld htable.1
  rw [State.warmReset_eq]
  generalize s.endAllHolds = u at hunheld
  intro z
  have hzone : ((u.clearAtReset pins).zones.get z).reserved = 0 := congrArg ZoneRecord.reserved (get_map _ _ z)
  rw [hzone]
  exact (Table.tally_eq_zero fun e he => Record.reserves_of_unheld (hunheld e he) z).symm

/-- Every effect keeps the reserved counts. -/
theorem State.Effect.reservedOk (he : s.Effect t) (h : s.ReservedOk) (htable : s.TableOk) (hrecords : s.RecordsOk) :
    t.ReservedOk := by
  cases he with
  | command c rest _ _ =>
    rw [State.takeLaneCommand_frame]
    exact h.of_eq rfl (.refl _)
  | settleCommands =>
    rw [State.settleCommands_frame]
    exact h.of_eq rfl (.refl _)
  | choose item =>
    rw [State.choose_frame]
    exact h.of_eq rfl (.refl _)
  | warmReset pins => exact .warmReset htable pins
  | endHold n slot r x howEnded u _ _ hheld hends =>
    obtain ⟨hr, hstate⟩ := State.heldAt_mem hheld
    exact (h.holdEnds (hrecords.get hr) hr hstate hends).of_eq rfl (.refl _)
  | forcedReport =>
    rw [State.reportRecordless_frame]
    exact h.of_eq rfl (.refl _)
  | gateEvent =>
    rw [State.reportRecordless_frame]
    exact h.of_eq rfl (.refl _)
  | backfill slot r _ hfirst _ =>
    have hr := htable.get?_of_mem (List.mem_of_find?_eq_some hfirst)
    exact h.writeAlike (q := { r with pendingReport := false }) hr (fun _ => rfl) rfl (.refl _)
  | lane n q u reply _ _ hwork => exact (h.laneWork htable hrecords hwork).of_eq rfl (.refl _)
  | uplink _ ht =>
    obtain ⟨r, u, a, -, -, hwork, -⟩ := ht
    exact (h.uplinkWork htable hwork).of_eq rfl (.refl _)
  | _ => exact h.of_eq rfl (.refl _)

theorem State.ReservedOk.tableWork (h : s.ReservedOk) (htable : s.TableOk) (hwork : s.TableWork t) :
    t.ReservedOk := by
  cases hwork with
  | nothing => exact h
  | load _ hwork =>
    cases hwork with
    | nothing => exact h
    | insert r hr _ _ =>
      intro z
      rw [State.holdsReserving_eq_tally, Table.tally_insert, Record.reserves_of_unheld hr.hold]
      exact h z
    | replace slot old r hr hfound hhold _ =>
      refine h.writeAlike (htable.get?_of_mem (Table.lookup_mem hfound).1) (fun z => ?_) rfl (.refl _)
      rw [Record.reserves_of_unheld hr.hold, Record.reserves_of_unheld hhold]
  | drop slot old hfound hhold _ =>
    intro z
    have htally := Table.tally_erase (Record.reserves z) (htable.get?_of_mem (Table.lookup_mem hfound).1)
    rw [Record.reserves_of_unheld hhold] at htally
    exact (h z).trans htally.symm
  | clear hhold =>
    intro z
    have hzero := Table.tally_eq_zero fun e he => Record.reserves_of_unheld (hhold e he) z
    exact (h z).trans hzero

end

end Sys2Proof.Machine
end

section
/-! The journal, the output lines and the counts over every effect (R43, R71, R123, R153 to R166, R175, R179, R192). -/

namespace Sys2Proof.Machine

/-! ### The journal -/

/-- No entry names HELD: a HELD record is reported in its prior state (R156). -/
theorem Record.reportedState_ne_held (r : Record) : r.reportedState ≠ .held := by
  unfold Record.reportedState
  cases r.state with
  | held h => cases hprior : h.prior <;> simp [hprior, PriorState.state, RecordState.name]
  | _ => simp [RecordState.name]

theorem Record.fields_ok (r : Record) (zone : ZoneNo) :
    ∀ f ∈ some (r.fields zone), f.stateAfter ≠ .held := by
  intro f hf
  cases hf
  exact r.reportedState_ne_held

theorem GateEvent.kind_recordless (e : GateEvent) : e.kind.recordBearing = false := by cases e <;> rfl

/-- The entry appended has the next number, and the number after it is the next one's (R157). -/
theorem consecutive_append {next : BitVec 16} {l : List Entry} {e : Entry} (h : consecutive next l = true)
    (he : e.sequence = next) : consecutive (next + 1) (l ++ [e]) = true := by
  induction l with
  | nil => simp [consecutive, he]
  | cons x l ih =>
    simp only [consecutive, Bool.and_eq_true, decide_eq_true_eq] at h
    obtain ⟨hx, hl⟩ := h
    simp only [List.cons_append, consecutive, Bool.and_eq_true, decide_eq_true_eq, List.length_append,
      List.length_singleton]
    refine ⟨?_, ih hl⟩
    rw [← hx, ← sequence_succ, BitVec.add_assoc, BitVec.add_assoc, BitVec.add_comm 1]

theorem consecutive_drop {next : BitVec 16} {l : List Entry} (h : consecutive next l = true) (k : Nat) :
    consecutive next (l.drop k) = true := by
  induction l generalizing k with
  | nil => simpa using h
  | cons x l ih =>
    cases k with
    | zero => exact h
    | succ k =>
      simp only [consecutive, Bool.and_eq_true] at h
      exact ih h.2 k

section
variable {s t : State}

theorem State.JournalOk.of_eq (h : s.JournalOk) (hjournal : t.journal = s.journal)
    (hseq : t.nextSeq = s.nextSeq) : t.JournalOk := by
  simpa only [State.JournalOk, hjournal, hseq] using h

theorem State.JournalOk.append (h : s.JournalOk) (hroom : s.journal.length < Config.journalCapacity)
    {kind : Kind} {source : Source} {time : VenueTime} {fields : Option RecordFields}
    (hfields : fields.isSome = kind.recordBearing) (hstate : ∀ f ∈ fields, f.stateAfter ≠ .held) :
    (s.append kind source time fields).JournalOk := by
  obtain ⟨hlength, hnumbers, hentries⟩ := h
  refine ⟨?_, consecutive_append hnumbers rfl, fun e he => ?_⟩
  · rw [State.append_journal, List.length_append, List.length_singleton]
    exact hroom
  · rw [State.append_journal] at he
    obtain he | he := List.mem_append.mp he
    · exact hentries e he
    · rw [List.mem_singleton.mp he]
      exact ⟨hfields, hstate⟩

theorem State.JournalOk.report (h : s.JournalOk) (slot : Nat) (q : Record) {kind : Kind} (source : Source)
    (time : VenueTime) (zone : ZoneNo) (hkind : kind.recordBearing = true) :
    (s.report slot q kind source time zone).JournalOk := by
  obtain ⟨hroom, heq⟩ | ⟨-, heq⟩ := s.report_cases slot q kind source time zone <;> rw [heq]
  · exact h.append hroom hkind.symm (q.fields_ok zone)
  · obtain ⟨r, -, -, heq⟩ | ⟨-, heq⟩ := s.flagPending_cases slot <;> rw [heq]
    · exact h.of_eq rfl rfl
    · exact h

theorem State.JournalOk.reportRecordless (h : s.JournalOk) {kind : Kind} (source : Source) (time : VenueTime)
    (hkind : kind.recordBearing = false) : (s.reportRecordless kind source time).JournalOk := by
  obtain ⟨hroom, heq⟩ | ⟨-, heq⟩ := s.reportRecordless_cases kind source time <;> rw [heq]
  · exact h.append hroom hkind.symm fun f hf => nomatch hf
  · exact h

theorem State.JournalOk.holdEnds (h : s.JournalOk) {slot : Nat} {r : Record} {x : Hold}
    (hends : s.HoldEnds slot r x t) : t.JournalOk := by
  cases hends with
  | silent q zs _ _ => exact h.of_eq rfl rfl
  | reported q zs kind source time zone _ _ hkind =>
    have hwritten : (s.rewrite slot q zs).JournalOk := h.of_eq rfl rfl
    exact hwritten.report slot q source time zone hkind

theorem State.JournalOk.laneWork (h : s.JournalOk) {n : Lane} (hwork : s.LaneWork n t) : t.JournalOk := by
  cases hwork with
  | nothing => exact h
  | refuse => exact h.of_eq rfl rfl
  | poll => exact h.of_eq rfl rfl
  | cancel slot r x u _ _ hends =>
    have hrelocked : (s.setLane n (s.lanes.get n).relock).JournalOk := h.of_eq rfl rfl
    exact (hrelocked.holdEnds hends).of_eq rfl rfl
  | grant cred slot r _ _ =>
    obtain ⟨zs, -, heq⟩ := s.grantHold_frame n cred slot r
    rw [heq]
    exact h.of_eq rfl rfl

theorem State.JournalOk.uplinkWork (h : s.JournalOk) (hwork : s.UplinkWork t) : t.JournalOk := by
  cases hwork with
  | nothing => exact h
  | double slot r source time zone => exact h.report slot r source time zone rfl
  | doubleHeld slot r x zs source time zone _ _ _ =>
    have hzones : State.JournalOk { s with zones := zs } := h.of_eq rfl rfl
    exact (hzones.report slot r source time zone (kind := .double) rfl).of_eq rfl rfl
  | takeJournal k =>
    obtain ⟨hlength, hnumbers, hentries⟩ := h
    exact ⟨(List.drop_sublist k _).length_le.trans hlength, consecutive_drop hnumbers k,
      fun e he => hentries e (List.mem_of_mem_drop he)⟩
  | _ => exact h.of_eq rfl rfl

theorem State.JournalOk.warmReset (h : s.JournalOk) (pins : WarmPins) : (s.warmReset pins).JournalOk := by
  have hall : s.endAllHolds.JournalOk :=
    State.endAllHolds_induction (fun _ _ _ _ _ hs _ _ hends => State.JournalOk.holdEnds hs hends) h
  rw [State.warmReset_eq]
  generalize s.endAllHolds = u at hall
  exact hall.of_eq rfl rfl

/-- Every effect keeps the journal within its bounds and numbered. -/
theorem State.Effect.journalOk (he : s.Effect t) (h : s.JournalOk) : t.JournalOk := by
  cases he with
  | command c rest _ _ =>
    rw [State.takeLaneCommand_frame]
    exact h.of_eq rfl rfl
  | settleCommands =>
    rw [State.settleCommands_frame]
    exact h.of_eq rfl rfl
  | choose item =>
    rw [State.choose_frame]
    exact h.of_eq rfl rfl
  | warmReset pins => exact h.warmReset pins
  | endHold n slot r x howEnded u _ _ _ hends => exact (h.holdEnds hends).of_eq rfl rfl
  | forcedReport n =>
    have htaken : (s.takeForcedReport n).JournalOk := h.of_eq rfl rfl
    exact (htaken.reportRecordless (kind := .forced) _ _ rfl).of_eq rfl rfl
  | gateEvent e rest =>
    have htaken : State.JournalOk { s with gc := { s.gc with events := rest } } := h.of_eq rfl rfl
    exact (htaken.reportRecordless _ _ e.kind_recordless).of_eq rfl rfl
  | backfill slot r _ _ hroom =>
    have happended := h.append (kind := .snapshot) (source := .gate s.gc.gateId) (time := s.clock.time)
      (of_decide_eq_true hroom) rfl (r.fields_ok (s.zoneOf r))
    exact happended.of_eq rfl rfl
  | lane n q u reply _ _ hwork => exact (h.laneWork hwork).of_eq rfl rfl
  | uplink _ ht =>
    obtain ⟨r, u, a, -, -, hwork, -⟩ := ht
    exact (h.uplinkWork hwork).of_eq rfl rfl
  | _ => exact h.of_eq rfl rfl

theorem State.TableWork.frame (hwork : s.TableWork t) :
    t = { s with table := t.table, pendingCount := t.pendingCount, attn := t.attn } := by
  cases hwork with
  | load _ hwork => cases hwork <;> rfl
  | _ => rfl

theorem State.JournalOk.tableWork (h : s.JournalOk) (hwork : s.TableWork t) : t.JournalOk := by
  rw [hwork.frame]
  exact h.of_eq rfl rfl

/-! ### ATTN -/

/-- ATTN at its condition (R166). -/
abbrev State.AttnOk (s : State) : Prop := s.attn = s.attnCondition

theorem State.AttnOk.of_eq (h : s.AttnOk) (hattn : t.attn = s.attn) (hwatermark : t.watermark = s.watermark)
    (hjournal : t.journal = s.journal) (hcount : t.pendingCount = s.pendingCount) : t.AttnOk := by
  simpa only [State.AttnOk, State.attnCondition, hattn, hwatermark, hjournal, hcount] using h

theorem State.AttnOk.drive (s : State) : s.driveAttn.AttnOk := rfl

theorem State.AttnOk.report (h : s.AttnOk) (slot : Nat) (q : Record) (kind : Kind) (source : Source)
    (time : VenueTime) (zone : ZoneNo) : (s.report slot q kind source time zone).AttnOk := by
  obtain ⟨-, heq⟩ | ⟨-, heq⟩ := s.report_cases slot q kind source time zone <;> rw [heq]
  · exact .drive _
  · obtain ⟨r, -, -, heq⟩ | ⟨-, heq⟩ := s.flagPending_cases slot <;> rw [heq]
    · exact .drive _
    · exact h

theorem State.AttnOk.reportRecordless (h : s.AttnOk) (kind : Kind) (source : Source) (time : VenueTime) :
    (s.reportRecordless kind source time).AttnOk := by
  obtain ⟨-, heq⟩ | ⟨-, heq⟩ := s.reportRecordless_cases kind source time <;> rw [heq]
  · exact .drive _
  · exact h

theorem State.AttnOk.holdEnds (h : s.AttnOk) {slot : Nat} {r : Record} {x : Hold}
    (hends : s.HoldEnds slot r x t) : t.AttnOk := by
  cases hends with
  | silent q zs _ _ => exact h.of_eq rfl rfl rfl rfl
  | reported q zs kind source time zone _ _ _ =>
    have hwritten : (s.rewrite slot q zs).AttnOk := h.of_eq rfl rfl rfl rfl
    exact hwritten.report slot q kind source time zone

theorem State.AttnOk.laneWork (h : s.AttnOk) {n : Lane} (hwork : s.LaneWork n t) : t.AttnOk := by
  cases hwork with
  | nothing => exact h
  | refuse => exact h.of_eq rfl rfl rfl rfl
  | poll => exact h.of_eq rfl rfl rfl rfl
  | cancel slot r x u _ _ hends =>
    have hrelocked : (s.setLane n (s.lanes.get n).relock).AttnOk := h.of_eq rfl rfl rfl rfl
    exact (hrelocked.holdEnds hends).of_eq rfl rfl rfl rfl
  | grant cred slot r _ _ =>
    obtain ⟨zs, -, heq⟩ := s.grantHold_frame n cred slot r
    rw [heq]
    exact h.of_eq rfl rfl rfl rfl

theorem State.AttnOk.uplinkWork (h : s.AttnOk) (hwork : s.UplinkWork t) : t.AttnOk := by
  cases hwork with
  | nothing => exact h
  | double slot r source time zone => exact h.report slot r .double source time zone
  | doubleHeld slot r x zs source time zone _ _ _ =>
    have hzones : State.AttnOk { s with zones := zs } := h.of_eq rfl rfl rfl rfl
    exact (hzones.report slot r .double source time zone).of_eq rfl rfl rfl rfl
  | takeJournal k => exact .drive _
  | setWatermark w => exact .drive _
  | _ => exact h.of_eq rfl rfl rfl rfl

/-- Every effect keeps ATTN at its condition. -/
theorem State.Effect.attnOk (he : s.Effect t) (h : s.AttnOk) : t.AttnOk := by
  cases he with
  | command c rest _ _ =>
    rw [State.takeLaneCommand_frame]
    exact h.of_eq rfl rfl rfl rfl
  | settleCommands =>
    rw [State.settleCommands_frame]
    exact h.of_eq rfl rfl rfl rfl
  | choose item =>
    rw [State.choose_frame]
    exact h.of_eq rfl rfl rfl rfl
  | warmReset pins =>
    rw [State.warmReset_eq]
    exact .drive _
  | endHold n slot r x howEnded u _ _ _ hends => exact (h.holdEnds hends).of_eq rfl rfl rfl rfl
  | forcedReport n =>
    have htaken : (s.takeForcedReport n).AttnOk := h.of_eq rfl rfl rfl rfl
    exact (htaken.reportRecordless .forced (.lane n) s.clock.time).of_eq rfl rfl rfl rfl
  | gateEvent e rest =>
    have htaken : State.AttnOk { s with gc := { s.gc with events := rest } } := h.of_eq rfl rfl rfl rfl
    exact (htaken.reportRecordless e.kind (.gate s.gc.gateId) s.clock.time).of_eq rfl rfl rfl rfl
  | backfill slot r => exact (State.AttnOk.drive _).of_eq rfl rfl rfl rfl
  | lane n q u reply _ _ hwork => exact (h.laneWork hwork).of_eq rfl rfl rfl rfl
  | uplink _ ht =>
    obtain ⟨r, u, a, -, -, hwork, -⟩ := ht
    exact (h.uplinkWork hwork).of_eq rfl rfl rfl rfl
  | _ => exact h.of_eq rfl rfl rfl rfl

theorem State.AttnOk.tableWork (h : s.AttnOk) (hwork : s.TableWork t) : t.AttnOk := by
  cases hwork with
  | nothing => exact h
  | load _ hwork =>
    cases hwork with
    | nothing => exact h
    | _ => exact h.of_eq rfl rfl rfl rfl
  | drop => exact h.of_eq rfl rfl rfl rfl
  | clear => exact .drive _

end

end Sys2Proof.Machine
end

section
/-! READY of each lane link and the counts over every effect (R43, R71, R165, R175, R179, R192). -/

namespace Sys2Proof.Machine

/-! ### READY -/

/-- READY stands while the reply slot is FULL (R192). -/
abbrev Port.ReadyFits (p : Port) : Prop := p.ready = p.reply.isSome

theorem Port.ReadyFits.beginTransfer {p : Port} (h : p.ReadyFits) (rst : Bool) : (p.beginTransfer rst).ReadyFits := by
  unfold Port.beginTransfer
  split <;> exact h

theorem Port.ReadyFits.settleRead {p : Port} (h : p.ReadyFits) (noted : Option LaneReply) (overtaken : Bool)
    (bytes : Nat) : (p.settleRead noted overtaken bytes).ReadyFits := by
  unfold Port.settleRead
  split
  · split
    · rfl
    · exact h
  · exact h

theorem Port.ReadyFits.takeInbound {p : Port} (h : p.ReadyFits) (i : Inbound) : (p.takeInbound i).ReadyFits := by
  unfold Port.takeInbound
  split
  · exact h
  · rfl
  · split <;> exact h

theorem Port.ReadyFits.endTransfer {p : Port} (h : p.ReadyFits) (rst : Bool) (bits : List Bool) :
    (p.endTransfer rst bits).ReadyFits := by
  have hended : Port.ReadyFits { p with transfer := .none } := h
  unfold Port.endTransfer
  dsimp only
  split
  · split
    · exact h
    · exact (hended.settleRead _ _ _).takeInbound _
  · exact h

/-- READY of every lane link stands while its reply slot is FULL (R192). -/
abbrev State.ReadyOk (s : State) : Prop := ∀ n : Lane, (s.ports.get n).ReadyFits

section
variable {s t : State}

theorem State.ReadyOk.setPort (h : s.ReadyOk) (n : Lane) {p : Port} (hp : p.ReadyFits) : (s.setPort n p).ReadyOk := by
  intro m
  rw [State.setPort_ports, get_set]
  split
  · exact hp
  · exact h m

theorem State.ReadyOk.choose (h : s.ReadyOk) (item : Service) : (s.choose item).ReadyOk := by
  cases item with
  | laneRequest n => exact State.ReadyOk.setPort (s := { s with chosen := some (.laneRequest n) }) h n (h n)
  | _ => exact h

theorem State.HoldEnds.frame {slot : Nat} {r : Record} {x : Hold} (hends : s.HoldEnds slot r x t) :
    t = { s with
      table := t.table, zones := t.zones, pendingCount := t.pendingCount, journal := t.journal, nextSeq := t.nextSeq,
      attn := t.attn } := by
  cases hends with
  | silent => rfl
  | reported q zs kind source time zone =>
    have hframe := (s.rewrite slot q zs).report_frame slot q kind source time zone _ rfl
    rw [hframe]
    rfl

theorem State.LaneWork.ports {n : Lane} (hwork : s.LaneWork n t) : t.ports = s.ports := by
  cases hwork with
  | cancel slot r x u _ _ hends =>
    rw [hends.frame]
    rfl
  | grant cred slot r =>
    obtain ⟨zs, -, heq⟩ := s.grantHold_frame n cred slot r
    rw [heq]
    rfl
  | _ => rfl

theorem State.UplinkWork.ports (hwork : s.UplinkWork t) : t.ports = s.ports := by
  cases hwork with
  | double slot r source time zone =>
    rw [s.report_frame slot r .double source time zone _ rfl]
  | doubleHeld slot r x zs source time zone =>
    rw [State.report_frame { s with zones := zs } slot r .double source time zone _ rfl]
    rfl
  | _ => rfl

/-- Every effect keeps READY at the reply slot. -/
theorem State.Effect.readyOk (he : s.Effect t) (h : s.ReadyOk) : t.ReadyOk := by
  cases he with
  | command c rest _ _ =>
    rw [State.takeLaneCommand_frame]
    exact h
  | settleCommands =>
    rw [State.settleCommands_frame]
    exact h
  | choose item => exact h.choose item
  | transferBegin n => exact h.setPort n ((h n).beginTransfer _)
  | transferEnd n bits => exact h.setPort n ((h n).endTransfer _ bits)
  | warmReset pins =>
    rw [State.warmReset_eq]
    generalize s.endAllHolds = u
    intro n
    have hport : ((u.clearAtReset pins).ports.get n) = (u.ports.get n).warmReset := get_map _ _ n
    rw [hport]
    rfl
  | endHold n slot r x howEnded u _ _ _ hends =>
    rw [hends.frame]
    exact h
  | forcedReport =>
    rw [State.reportRecordless_frame]
    exact h
  | gateEvent =>
    rw [State.reportRecordless_frame]
    exact h
  | lane n q u reply _ _ hwork =>
    have hu : u.ReadyOk := fun m => by rw [hwork.ports]; exact h m
    exact hu.setPort n rfl
  | uplink _ ht =>
    obtain ⟨r, u, a, -, -, hwork, -⟩ := ht
    intro m
    rw [State.finishUplink_ports, hwork.ports]
    exact h m
  | _ => exact h

end

/-! ### The counts -/

theorem eventsAfter_length {l : List GateEvent} (h : l.length ≤ Config.gateEventCapacity) (e : GateEvent) :
    (eventsAfter l e).length ≤ Config.gateEventCapacity := by
  unfold eventsAfter
  split
  · rw [List.length_append, List.length_singleton]
    assumption
  · exact h

/-- Hearing a frame touches nothing of the Gate Controller but the link, its monitor and the events held (R177). -/
theorem GateController.hearFrame_eq (g : GateController) :
    g.hearFrame =
      { g with
        monitorCount := 0, timeoutDue := false, link := .online
        events := if g.link = .offline then eventsAfter g.events .linkBack else g.events } := by
  cases hlink : g.link <;> simp [GateController.hearFrame, hlink, GateController.raise_eq]

/-- The monitor's tick touches its count and what is due alone (R178). -/
theorem GateController.tickMonitor_frame (g : GateController) :
    g.tickMonitor =
      { g with monitorCount := g.tickMonitor.monitorCount, timeoutDue := g.tickMonitor.timeoutDue } := by
  unfold GateController.tickMonitor
  split <;> rfl

/-- The counts within their bounds, but for the forced report counts of the lane units (R43, R71, R165, R175,
R179). -/
abbrev State.BoundsOk (s : State) : Prop :=
  (1 ≤ s.watermark ∧ s.watermark ≤ Config.journalCapacity) ∧
  (Config.minLinkTimeout ≤ s.gc.linkTimeout ∧ s.gc.linkTimeout ≤ 255) ∧
  s.gc.events.length ≤ Config.gateEventCapacity ∧
  (∀ c : ClassNo, (s.classes.get c).cooldown ≤ Config.maxCooldown) ∧
  ∀ n : Lane, (s.contexts.get n).forcedSincePoll ≤ Config.forcedLimit

section
variable {s t : State}

theorem State.BoundsOk.of_eq (h : s.BoundsOk) (hwatermark : t.watermark = s.watermark)
    (htimeout : t.gc.linkTimeout = s.gc.linkTimeout) (hevents : t.gc.events.length ≤ Config.gateEventCapacity)
    (hclasses : t.classes = s.classes) (hcontexts : t.contexts = s.contexts) : t.BoundsOk := by
  obtain ⟨hw, hl, -, hc, hf⟩ := h
  unfold State.BoundsOk
  rw [hwatermark, htimeout, hclasses, hcontexts]
  exact ⟨hw, hl, hevents, hc, hf⟩

/-- The Gate Controller's count of events held is within its bound (R175). -/
theorem State.BoundsOk.events (h : s.BoundsOk) : s.gc.events.length ≤ Config.gateEventCapacity := by
  obtain ⟨-, -, hevents, -⟩ := h
  exact hevents

theorem State.BoundsOk.setContext (h : s.BoundsOk) (n : Lane) {c : LaneContext}
    (hc : c.forcedSincePoll ≤ Config.forcedLimit) : (s.setContext n c).BoundsOk := by
  obtain ⟨hw, hl, he, hcool, hf⟩ := h
  refine ⟨hw, hl, he, hcool, fun m => ?_⟩
  rw [State.setContext_contexts, get_set]
  split
  · exact hc
  · exact hf m

/-- The forced count since poll of every context is within its bound (R71). -/
theorem State.BoundsOk.forcedSincePoll (h : s.BoundsOk) (n : Lane) :
    (s.contexts.get n).forcedSincePoll ≤ Config.forcedLimit := by
  obtain ⟨-, -, -, -, hpolled⟩ := h
  exact hpolled n

theorem State.BoundsOk.holdEnds (h : s.BoundsOk) {slot : Nat} {r : Record} {x : Hold}
    (hends : s.HoldEnds slot r x t) : t.BoundsOk := by
  rw [hends.frame]
  exact h

theorem State.BoundsOk.closeHold (h : s.BoundsOk) (n : Lane) (howEnded : HoldEnd) (ticket : Ticket) :
    (s.closeHold n howEnded ticket).BoundsOk :=
  (h.setContext n (c := { s.contexts.get n with holdRef := none, lastOutcome := some ⟨howEnded, ticket⟩ })
    (h.forcedSincePoll n)).of_eq rfl rfl h.events rfl rfl

theorem State.BoundsOk.laneWork (h : s.BoundsOk) {n : Lane} (hwork : s.LaneWork n t) : t.BoundsOk := by
  cases hwork with
  | nothing => exact h
  | refuse => exact h
  | poll => exact h.setContext n (Nat.zero_le _)
  | cancel slot r x u _ _ hends =>
    have hrelocked : (s.setLane n (s.lanes.get n).relock).BoundsOk := h
    exact (hrelocked.holdEnds hends).closeHold n _ _
  | grant cred slot r _ _ =>
    obtain ⟨zs, -, heq⟩ := s.grantHold_frame n cred slot r
    rw [heq]
    exact (h.setContext n (c := { s.contexts.get n with holdRef := some ⟨r.ticket, slot⟩ })
      (h.forcedSincePoll n)).of_eq rfl rfl h.events rfl rfl

theorem State.BoundsOk.uplinkWork (h : s.BoundsOk) (hwork : s.UplinkWork t) : t.BoundsOk := by
  cases hwork with
  | double slot r source time zone =>
    rw [s.report_frame slot r .double source time zone _ rfl]
    exact h
  | doubleHeld slot r x zs source time zone =>
    rw [State.report_frame { s with zones := zs } slot r .double source time zone _ rfl]
    exact h
  | setClass c r hcooldown =>
    obtain ⟨hw, hl, he, hcool, hf⟩ := h
    refine ⟨hw, hl, he, fun d => ?_, hf⟩
    rw [get_set]
    split
    · exact hcooldown
    · exact hcool d
  | setWatermark w hlow hhigh =>
    obtain ⟨-, hrest⟩ := h
    exact ⟨⟨hlow, hhigh⟩, hrest⟩
  | setLinkTimeout k hlow hhigh =>
    obtain ⟨hw, -, hrest⟩ := h
    exact ⟨hw, ⟨hlow, hhigh⟩, hrest⟩
  | _ => exact h

theorem State.BoundsOk.warmReset (h : s.BoundsOk) (pins : WarmPins) : (s.warmReset pins).BoundsOk := by
  have hall : s.endAllHolds.BoundsOk :=
    State.endAllHolds_induction (fun _ _ _ _ _ hs _ _ hends => State.BoundsOk.holdEnds hs hends) h
  rw [State.warmReset_eq]
  generalize s.endAllHolds = u at hall
  obtain ⟨hw, hl, he, hcool, -⟩ := hall
  have hgc : (u.clearAtReset pins).gc = u.gc.warmReset u.evacPin := rfl
  refine ⟨hw, ?_, ?_, hcool, fun n => ?_⟩
  · rw [hgc, GateController.warmReset_eq]
    exact hl
  · rw [hgc, GateController.warmReset_eq]
    dsimp only
    have hchanged : (if u.evacPin = true ∧ u.gc.gate ≠ .evac then eventsAfter u.gc.events .evacBegin
        else if u.evacPin = false ∧ u.gc.gate = .evac then eventsAfter u.gc.events .evacEnd
        else u.gc.events).length ≤ Config.gateEventCapacity := by
      split
      · exact eventsAfter_length he _
      · split
        · exact eventsAfter_length he _
        · exact he
    split
    · exact eventsAfter_length hchanged _
    · exact hchanged
  · have hcontext : (u.clearAtReset pins).contexts.get n = .empty := get_replicate _ n
    rw [hcontext]
    exact Nat.zero_le _

/-- Every effect keeps the counts within their bounds. -/
theorem State.Effect.boundsOk (he : s.Effect t) (h : s.BoundsOk) : t.BoundsOk := by
  cases he with
  | countTick =>
    have hframe := s.gc.tickMonitor_frame
    have htimeout : s.gc.tickMonitor.linkTimeout = s.gc.linkTimeout := by rw [hframe]
    have hevents : s.gc.tickMonitor.events = s.gc.events := by rw [hframe]
    exact h.of_eq rfl htimeout ((congrArg List.length hevents).trans_le h.events) rfl rfl
  | loseLink => exact h.of_eq rfl rfl (eventsAfter_length h.events _) rfl rfl
  | assertEvac => exact h.of_eq rfl rfl (eventsAfter_length h.events _) rfl rfl
  | releaseEvac => exact h.of_eq rfl rfl (eventsAfter_length h.events _) rfl rfl
  | command c rest _ _ =>
    rw [State.takeLaneCommand_frame]
    exact h
  | settleCommands =>
    rw [State.settleCommands_frame]
    exact h
  | choose item =>
    rw [State.choose_frame]
    exact h
  | hear rx r =>
    rw [GateController.hearFrame_eq]
    refine h.of_eq rfl rfl ?_ rfl rfl
    dsimp only
    split
    · exact eventsAfter_length h.events _
    · exact h.events
  | warmReset pins => exact h.warmReset pins
  | endHold n slot r x howEnded u _ _ _ hends => exact (h.holdEnds hends).closeHold n _ _
  | forcedReport n =>
    rw [State.reportRecordless_frame]
    exact h.setContext n
      (c := { s.contexts.get n with
        forcedSincePoll := min ((s.contexts.get n).forcedSincePoll + 1) Config.forcedLimit }) (min_le_right _ _)
  | gateEvent e rest _ hevents =>
    rw [State.reportRecordless_frame]
    have hlength := h.events
    rw [hevents] at hlength
    exact h.of_eq rfl rfl ((Nat.le_succ _).trans hlength) rfl rfl
  | lane n q u reply _ _ hwork =>
    have hu := h.laneWork hwork
    exact hu
  | uplink _ ht =>
    obtain ⟨r, u, a, -, -, hwork, -⟩ := ht
    have hu := h.uplinkWork hwork
    exact hu
  | _ => exact h

end

end Sys2Proof.Machine
end

section
/-! The lane units: what every operation on a lane unit keeps of its hold, its rotor, its settings, its gate and its
locks (R90, R107, R113 to R136). -/

namespace Sys2Proof.Machine

/-! ### The safe states of one lane unit -/

/-- The lane state fits the gate and the role: FREE under EVAC, else CLOSED exactly for role OFF (R118). -/
abbrev LaneUnit.GateFits (lu : LaneUnit) (evac : Prop) : Prop :=
  (evac ↔ lu.state = .free) ∧ (¬evac → (lu.state = .closed ↔ lu.role = .off))

/-- The lock outputs follow the table of R126. -/
abbrev LaneUnit.LocksFit (lu : LaneUnit) : Prop := lu.lockIn = lu.lockInLevel ∧ lu.lockOut = lu.lockOutLevel

/-- The conditions of the invariant on one lane unit, its lock outputs apart, at a gate in EVAC or not. -/
structure LaneUnit.Safe (lu : LaneUnit) (evac : Prop) : Prop where
  hold : lu.HoldOk
  rotor : lu.RotorOk
  live : lu.live.Ok
  preload : lu.preload.Ok
  forced : lu.forcedReports ≤ Config.forcedLimit
  gate : lu.GateFits evac
  off : lu.role = .off → lu.hold = none

/-- From one safe state to another under the same role and hold, the lock outputs with it. -/
structure LaneUnit.Runs (lu lu' : LaneUnit) (evac : Prop) : Prop where
  role : lu'.role = lu.role
  hold : lu'.hold = lu.hold
  safe : lu'.Safe evac
  locks : lu.LocksFit → lu'.LocksFit

/-- A raised completion and a forced report stay raised. -/
structure LaneUnit.KeepsRaised (lu lu' : LaneUnit) : Prop where
  completion : lu.completion ≠ none → lu'.completion ≠ none
  forced : 0 < lu.forcedReports → 0 < lu'.forcedReports

section
variable {lu lu' : LaneUnit} {evac : Prop}

theorem LaneUnit.Safe.runs_self (h : lu.Safe evac) : lu.Runs lu evac := ⟨rfl, rfl, h, id⟩

theorem LaneUnit.KeepsRaised.refl (lu : LaneUnit) : lu.KeepsRaised lu := ⟨id, id⟩

theorem LaneUnit.KeepsRaised.trans {lu'' : LaneUnit} (h : lu.KeepsRaised lu') (h' : lu'.KeepsRaised lu'') :
    lu.KeepsRaised lu'' := ⟨h'.completion ∘ h.completion, h'.forced ∘ h.forced⟩

theorem LaneUnit.raise_completion_ne_none (lu : LaneUnit) (c : Completion) : (lu.raise c).completion ≠ none :=
  fun h => nomatch (Option.or_eq_none_iff.mp h).2

theorem LaneUnit.KeepsRaised.of_raise {c : Completion} (h : lu'.forcedReports = lu.forcedReports) :
    lu.KeepsRaised (lu'.raise c) :=
  ⟨fun _ => lu'.raise_completion_ne_none c, fun hforced => hforced.trans_eq h.symm⟩

/-! ### HoldOk by lane state (R90, R118, R125) -/

theorem LaneUnit.holdOk_armed (h : lu.state = .armed) :
    lu.HoldOk ↔ lu.hold ≠ none ∧ lu.completion = none ∧ lu.overdue = false ∧
      ∃ k ∈ lu.armTimer, k ≤ Config.maxWindow * Config.ticksPerSecond := by
  simp only [LaneUnit.HoldOk, h]

theorem LaneUnit.holdOk_turning (h : lu.state = .turning) :
    lu.HoldOk ↔ lu.hold ≠ none ∧ lu.completion = none ∧ (lu.armTimer = none ↔ lu.overdue = true) ∧
      ∀ k ∈ lu.armTimer, k ≤ Config.maxWindow * Config.ticksPerSecond := by
  simp only [LaneUnit.HoldOk, h]

theorem LaneUnit.holdOk_closed (h : lu.state = .closed) :
    lu.HoldOk ↔ lu.hold = none ∧ lu.completion = none ∧ lu.armTimer = none := by
  simp only [LaneUnit.HoldOk, h]

theorem LaneUnit.holdOk_rest (h : lu.state = .locked ∨ lu.state = .free) :
    lu.HoldOk ↔ (lu.hold ≠ none ↔ lu.completion ≠ none) ∧ lu.armTimer = none := by
  obtain h | h := h <;> simp only [LaneUnit.HoldOk, h]

/-- Outside ARMED and TURNING the timer is stopped, and a hold stands exactly under a raised completion. -/
theorem LaneUnit.Safe.rest (h : lu.Safe evac) (hstate : lu.state.underHold = false) :
    (lu.hold ≠ none ↔ lu.completion ≠ none) ∧ lu.armTimer = none := by
  have hhold := h.hold
  cases hs : lu.state with
  | closed =>
    obtain ⟨hnone, hcompletion, htimer⟩ := (LaneUnit.holdOk_closed hs).mp hhold
    exact ⟨by simp [hnone, hcompletion], htimer⟩
  | locked => exact (LaneUnit.holdOk_rest (.inl hs)).mp hhold
  | free => exact (LaneUnit.holdOk_rest (.inr hs)).mp hhold
  | armed => simp [hs, LaneState.underHold] at hstate
  | turning => simp [hs, LaneState.underHold] at hstate

/-- ARMED and TURNING have a hold and no completion. -/
theorem LaneUnit.Safe.underHold (h : lu.Safe evac) (hstate : lu.state.underHold = true) :
    lu.hold ≠ none ∧ lu.completion = none := by
  have hhold := h.hold
  cases hs : lu.state with
  | armed =>
    obtain ⟨hsome, hcompletion, -⟩ := (LaneUnit.holdOk_armed hs).mp hhold
    exact ⟨hsome, hcompletion⟩
  | turning =>
    obtain ⟨hsome, hcompletion, -⟩ := (LaneUnit.holdOk_turning hs).mp hhold
    exact ⟨hsome, hcompletion⟩
  | _ => simp [hs, LaneState.underHold] at hstate

/-- A raised completion stands at a lane that is neither ARMED nor TURNING. -/
theorem LaneUnit.Safe.underHold_of_completion (h : lu.Safe evac) (hcompletion : lu.completion ≠ none) :
    lu.state.underHold = false := by
  cases hs : lu.state.underHold with
  | false => rfl
  | true => exact absurd (h.underHold hs).2 hcompletion

/-! ### The gate and the locks -/

/-- A lane state that is neither FREE nor CLOSED may take the place of another. -/
theorem LaneUnit.GateFits.move (h : lu.GateFits evac) (hrole : lu'.role = lu.role)
    (hstate : lu.state ≠ .free ∧ lu.state ≠ .closed) (hstate' : lu'.state ≠ .free ∧ lu'.state ≠ .closed) :
    lu'.GateFits evac := by
  obtain ⟨hfree, hclosed⟩ := h
  obtain ⟨hnotFree, hnotClosed⟩ := hstate
  obtain ⟨hnotFree', hnotClosed'⟩ := hstate'
  have hgate : ¬evac := fun he => hnotFree (hfree.mp he)
  refine ⟨iff_of_false hgate hnotFree', fun _ => iff_of_false hnotClosed' ?_⟩
  rw [hrole]
  exact fun hoff => hnotClosed ((hclosed hgate).mpr hoff)

theorem Role.restingState_eq_closed (r : Role) : r.restingState = .closed ↔ r = .off := by
  cases r <;> simp [Role.restingState]

theorem Role.restingState_ne_free (r : Role) : r.restingState ≠ .free := by cases r <;> simp [Role.restingState]

theorem Settings.Ok.threshold_pos {c : Settings} (h : c.Ok) : (48 : Int) ≤ (c.threshold : Int) := by
  obtain ⟨-, -, hlow, -⟩ := h
  unfold Config.minThreshold at hlow
  omega

theorem Settings.Ok.window {c : Settings} (h : c.Ok) :
    c.window * Config.ticksPerSecond ≤ Config.maxWindow * Config.ticksPerSecond := by
  obtain ⟨-, hhigh, -⟩ := h
  exact Nat.mul_le_mul_right _ hhigh

/-! ### The rotor's count (R115 to R120) -/

theorem LaneUnit.RotorOk.of_eq (h : lu.RotorOk) (haccumulator : lu'.accumulator = lu.accumulator)
    (hcounted : lu'.counted = lu.counted) (hlive : lu'.live.threshold = lu.live.threshold)
    (hturning : lu'.state = .turning → lu.state = .turning ∧ lu'.hold = lu.hold) : lu'.RotorOk := by
  obtain ⟨hlow, hhigh, hreached, hturns⟩ := h
  unfold LaneUnit.RotorOk
  rw [haccumulator, hcounted, hlive]
  refine ⟨hlow, hhigh, hreached, fun hs => ?_⟩
  obtain ⟨hwas, hhold⟩ := hturning hs
  rw [hhold]
  exact hturns hwas

/-- At A = 0 nothing is reached (R116). -/
theorem LaneUnit.RotorOk.of_zero (hzero : lu.accumulator = 0) (hlive : lu.live.Ok)
    (hturning : lu.state = .turning → lu.hold = none) : lu.RotorOk := by
  have hthreshold := hlive.threshold_pos
  rw [LaneUnit.RotorOk, hzero, abs_zero]
  refine ⟨by decide, by decide, fun h => by omega, fun hs d hd => ?_⟩
  rw [hturning hs] at hd
  cases hd

/-- A step's count is again between −95 and +95 (R115). -/
theorem accumulate_bounds {a : Int} (hlow : -95 ≤ a) (hhigh : a ≤ 95) (e : Side) :
    -95 ≤ accumulate a e ∧ accumulate a e ≤ 95 := by
  unfold accumulate Config.countsPerArm
  cases e <;> dsimp only [Side.sign] <;> split <;> omega

theorem LaneUnit.RotorOk.move_bounds (h : lu.RotorOk) (e : Side) :
    -95 ≤ (lu.move e).accumulator ∧ (lu.move e).accumulator ≤ 95 := by
  obtain ⟨hlow, hhigh, -⟩ := h
  exact accumulate_bounds hlow hhigh e

/-- A step that leaves |A| at the threshold or above was counted before, or reaches the threshold now (R116,
R117). -/
theorem LaneUnit.move_counted (h : lu.RotorOk) (hlive : lu.live.Ok) {e : Side}
    (hreached : (lu.live.threshold : Int) ≤ |(lu.move e).accumulator|) (hnot : lu.reaches e = false) :
    (lu.move e).counted = true := by
  obtain ⟨hlow, hhigh, hcounted, -⟩ := h
  have hthreshold := hlive.threshold_pos
  have hmoved : (lu.move e).accumulator = accumulate lu.accumulator e := rfl
  rw [hmoved] at hreached
  have hne : accumulate lu.accumulator e ≠ 0 := by
    rintro hzero
    rw [hzero, abs_zero] at hreached
    omega
  have hbefore : lu.counted = true := by
    by_contra hclear
    have hbelow : ¬(lu.live.threshold : Int) ≤ |lu.accumulator| := fun h => hclear (hcounted h)
    rw [le_abs] at hbelow hreached
    have hstep : e.sign * (lu.accumulator + e.sign) ≠ lu.live.threshold := by
      simpa [LaneUnit.reaches, Bool.eq_false_iff.mpr hclear] using hnot
    unfold accumulate Config.countsPerArm at hreached
    cases e <;> dsimp only [Side.sign] at hreached hstep <;> split at hreached <;> omega
  simp [LaneUnit.move, hbefore, hne]

/-- A step brings the count to the threshold at no other place of the rotor (R117). -/
theorem LaneUnit.reaches_spec {e : Side} (h : lu.reaches e = true) :
    lu.counted = false ∧ e.sign * (lu.accumulator + e.sign) = lu.live.threshold := by
  simpa [LaneUnit.reaches] using h

/-- The count that reaches the threshold is no new rest (R115, R131). -/
theorem LaneUnit.reaches_accumulator (hlive : lu.live.Ok) {e : Side} (h : lu.reaches e = true) :
    e.sign * (lu.move e).accumulator = lu.live.threshold := by
  obtain ⟨-, hreached⟩ := LaneUnit.reaches_spec h
  obtain ⟨-, -, hlow, hhigh⟩ := hlive
  unfold Config.minThreshold at hlow
  unfold Config.maxThreshold at hhigh
  have hmoved : (lu.move e).accumulator = accumulate lu.accumulator e := rfl
  rw [hmoved, accumulate, if_neg]
  · exact hreached
  · unfold Config.countsPerArm
    cases e <;> dsimp only [Side.sign] at hreached ⊢ <;> omega

/-- A step that does not bring the count to the threshold keeps the rotor's conditions, in TURNING as long as d·A
stays positive (R115 to R117, R120). -/
theorem LaneUnit.RotorOk.move (h : lu.RotorOk) (hlive : lu.live.Ok) {e : Side} (hnot : lu.reaches e = false)
    (haccumulator : lu'.accumulator = (lu.move e).accumulator) (hcounted : lu'.counted = (lu.move e).counted)
    (hlive' : lu'.live = lu.live)
    (hturning : lu'.state = .turning → ∀ d ∈ lu'.hold, 1 ≤ d.sign * (lu.move e).accumulator) : lu'.RotorOk := by
  obtain ⟨hlow, hhigh⟩ := h.move_bounds e
  rw [LaneUnit.RotorOk, haccumulator, hcounted, hlive']
  exact ⟨hlow, hhigh, fun hreached => LaneUnit.move_counted h hlive hreached hnot, hturning⟩

/-- A step that brings the count to the threshold sets the counted flag (R116, R117). -/
theorem LaneUnit.RotorOk.count (h : lu.RotorOk) {e : Side} (haccumulator : lu'.accumulator = (lu.move e).accumulator)
    (hcounted : lu'.counted = true) (hturning : lu'.state ≠ .turning) : lu'.RotorOk := by
  obtain ⟨hlow, hhigh⟩ := h.move_bounds e
  rw [LaneUnit.RotorOk, haccumulator]
  exact ⟨hlow, hhigh, fun _ => hcounted, fun hs => absurd hs hturning⟩

/-! ### Encoder steps (R117 to R124) -/

/-- What a step may do at a lane unit (R117 to R121). -/
inductive LaneUnit.Stepped (lu : LaneUnit) (e : Side) (now : VenueTime) : LaneUnit → Prop
  | moves (hnot : lu.reaches e = false)
      (hturning : lu.state = .turning → ∀ d ∈ lu.hold, 1 ≤ d.sign * (lu.move e).accumulator) :
      lu.Stepped e now (lu.move e)
  | forced (hstate : lu.state ≠ .turning) : lu.Stepped e now (lu.move e).forcedPassage
  | free (hstate : lu.state ≠ .turning) : lu.Stepped e now (lu.move e).freePassage
  | commits (d : Side) (hstate : lu.state.underHold = true) : lu.Stepped e now ((lu.move e).commitPassage d now)
  | starts (d : Side) (hstate : lu.state = .armed) (hhold : lu.hold = some d) (hnot : lu.reaches e = false)
      (hcount : Config.startThreshold ≤ d.sign * (lu.move e).accumulator) :
      lu.Stepped e now ((lu.move e).goTo .turning)
  | returns (hstate : lu.state = .turning) (hnot : lu.reaches e = false) (hoverdue : lu.overdue = false) :
      lu.Stepped e now ((lu.move e).goTo .armed)
  | expires (hstate : lu.state = .turning) (hnot : lu.reaches e = false) :
      lu.Stepped e now ((lu.move e).relock.raise .expiry)

theorem LaneUnit.stepArmed_stepped {d : Side} (hstate : lu.state = .armed) (hhold : lu.hold = some d)
    (hlive : lu.live.Ok) (e : Side) (now : VenueTime) : lu.Stepped e now (lu.stepArmed d e now) := by
  have hnotTurning : lu.state ≠ .turning := by rw [hstate]; exact LaneState.noConfusion
  have moves (hnot : lu.reaches e = false) : lu.Stepped e now (lu.move e) :=
    .moves hnot fun h => absurd h hnotTurning
  unfold LaneUnit.stepArmed
  dsimp only
  split
  · rename_i hdirection
    subst hdirection
    split
    · rename_i hcount
      split
      · exact .commits e (by rw [hstate]; rfl)
      · rename_i hnot
        exact .starts e hstate hhold (Bool.eq_false_iff.mpr hnot) hcount
    · rename_i hcount
      refine moves (Bool.eq_false_iff.mpr fun hreaches => hcount ?_)
      rw [LaneUnit.reaches_accumulator hlive hreaches, Config.startThreshold]
      have hthreshold := hlive.threshold_pos
      omega
  · split
    · exact .forced hnotTurning
    · rename_i hnot
      exact moves (Bool.eq_false_iff.mpr hnot)

theorem LaneUnit.stepTurning_stepped {d : Side} (hstate : lu.state = .turning) (hhold : lu.hold = some d)
    (hlive : lu.live.Ok) (hrotor : lu.RotorOk) (e : Side) (now : VenueTime) :
    lu.Stepped e now (lu.stepTurning d e now) := by
  obtain ⟨-, -, -, hturns⟩ := hrotor
  have hpositive := hturns hstate d hhold
  have hthreshold := hlive.threshold_pos
  unfold LaneUnit.stepTurning
  dsimp only
  split
  · exact .commits d (by rw [hstate]; rfl)
  · rename_i hcommit
    have hnot : lu.reaches e = false := by
      refine Bool.eq_false_iff.mpr fun hreaches => ?_
      have hopposite : e ≠ d := fun h => hcommit ⟨h, hreaches⟩
      obtain ⟨-, hreached⟩ := LaneUnit.reaches_spec hreaches
      cases e <;> cases d <;> dsimp only [Side.sign] at hreached hpositive
      · exact hopposite rfl
      · omega
      · omega
      · exact hopposite rfl
    split
    · split
      · exact .expires hstate hnot
      · rename_i hoverdue
        exact .returns hstate hnot (Bool.eq_false_iff.mpr hoverdue)
    · rename_i hcount
      refine .moves hnot fun _ d' hd' => ?_
      rw [hhold] at hd'
      cases hd'
      omega

/-- Every step of a safe lane unit is one of those. -/
theorem LaneUnit.Safe.stepped (h : lu.Safe evac) (e : Side) (now : VenueTime) : lu.Stepped e now (lu.step e now) := by
  have moves (hstate : lu.state ≠ .turning) (hnot : ¬lu.reaches e = true) : lu.Stepped e now (lu.move e) :=
    .moves (Bool.eq_false_iff.mpr hnot) fun hs => absurd hs hstate
  cases hs : lu.state with
  | closed =>
    have hstate : lu.state ≠ .turning := by rw [hs]; exact LaneState.noConfusion
    simp only [LaneUnit.step, hs]
    split
    · exact .forced hstate
    · exact moves hstate ‹_›
  | locked =>
    have hstate : lu.state ≠ .turning := by rw [hs]; exact LaneState.noConfusion
    simp only [LaneUnit.step, hs]
    split
    · split
      · exact .free hstate
      · exact .forced hstate
    · exact moves hstate ‹_›
  | free =>
    have hstate : lu.state ≠ .turning := by rw [hs]; exact LaneState.noConfusion
    simp only [LaneUnit.step, hs]
    split
    · exact .free hstate
    · exact moves hstate ‹_›
  | armed =>
    obtain ⟨hsome, -⟩ := h.underHold (by rw [hs]; rfl)
    obtain ⟨d, hhold⟩ := Option.ne_none_iff_exists'.mp hsome
    simp only [LaneUnit.step, hs, hhold]
    exact LaneUnit.stepArmed_stepped hs hhold h.live e now
  | turning =>
    obtain ⟨hsome, -⟩ := h.underHold (by rw [hs]; rfl)
    obtain ⟨d, hhold⟩ := Option.ne_none_iff_exists'.mp hsome
    simp only [LaneUnit.step, hs, hhold]
    exact LaneUnit.stepTurning_stepped hs hhold h.live h.rotor e now

/-- A lane whose hold is over in LOCKED, with its completion raised and its timer stopped, is safe (R119 to R122). -/
theorem LaneUnit.Safe.locks (h : lu.Safe evac) (hunder : lu.state.underHold = true) (hstate : lu'.state = .locked)
    (hrole : lu'.role = lu.role) (hhold : lu'.hold = lu.hold) (hcompletion : lu'.completion ≠ none)
    (htimer : lu'.armTimer = none) (hrotor : lu'.RotorOk) (hlive : lu'.live = lu.live)
    (hpreload : lu'.preload = lu.preload) (hforced : lu'.forcedReports = lu.forcedReports) : lu'.Safe evac where
  hold := by
    rw [LaneUnit.holdOk_rest (.inl hstate), hhold]
    exact ⟨iff_of_true (h.underHold hunder).1 hcompletion, htimer⟩
  rotor := hrotor
  live := by rw [hlive]; exact h.live
  preload := by rw [hpreload]; exact h.preload
  forced := by rw [hforced]; exact h.forced
  gate := by
    refine h.gate.move hrole ?_ (by rw [hstate]; decide)
    constructor <;> intro hs <;> rw [hs] at hunder <;> exact absurd hunder Bool.false_ne_true
  off := by rw [hrole, hhold]; exact h.off

theorem LaneUnit.LocksFit.of_eq (h : lu.LocksFit) (hstate : lu'.state = lu.state) (hrole : lu'.role = lu.role)
    (hhold : lu'.hold = lu.hold) (hin : lu'.lockIn = lu.lockIn) (hout : lu'.lockOut = lu.lockOut) :
    lu'.LocksFit := by
  unfold LaneUnit.LocksFit LaneUnit.lockInLevel LaneUnit.lockOutLevel at *
  rw [hstate, hrole, hhold, hin, hout]
  exact h

/-- A relock with a completion, from ARMED or TURNING (R102, R107, R120). -/
theorem LaneUnit.Safe.relock_runs (h : lu.Safe evac) (hunder : lu.state.underHold = true) (c : Completion) :
    lu.Runs (lu.relock.raise c) evac where
  role := rfl
  hold := rfl
  safe := by
    refine h.locks hunder rfl rfl rfl (LaneUnit.raise_completion_ne_none _ c) rfl ?_ rfl rfl rfl
    exact h.rotor.of_eq rfl rfl rfl fun hs => nomatch hs
  locks _ := ⟨rfl, rfl⟩

/-- A step keeps the safe states, the role, the hold and the locks (R117 to R122). -/
theorem LaneUnit.Safe.step_runs (h : lu.Safe evac) {e : Side} {now : VenueTime} (hstep : lu.Stepped e now lu') :
    lu.Runs lu' evac := by
  cases hstep with
  | moves hnot hturning =>
    exact ⟨rfl, rfl, ⟨h.hold, h.rotor.move h.live hnot rfl rfl rfl hturning, h.live, h.preload, h.forced, h.gate,
      h.off⟩, id⟩
  | forced hstate =>
    exact ⟨rfl, rfl, ⟨h.hold, h.rotor.count rfl rfl hstate, h.live, h.preload, min_le_right _ _, h.gate, h.off⟩, id⟩
  | free hstate =>
    exact ⟨rfl, rfl, ⟨h.hold, h.rotor.count rfl rfl hstate, h.live, h.preload, h.forced, h.gate, h.off⟩, id⟩
  | commits d hunder =>
    refine ⟨rfl, rfl, h.locks hunder rfl rfl rfl ?_ rfl ?_ rfl rfl rfl, fun _ => ⟨rfl, rfl⟩⟩
    · exact LaneUnit.raise_completion_ne_none _ (.commit now)
    · exact h.rotor.count (e := e) rfl rfl LaneState.noConfusion
  | starts d hstate hhold hnot hcount =>
    have hrotor : ((lu.move e).goTo .turning).RotorOk := by
      refine h.rotor.move h.live hnot rfl rfl rfl fun _ d' hd' => ?_
      rw [LaneUnit.goTo_hold] at hd'
      have hd' : lu.hold = some d' := hd'
      rw [hhold] at hd'
      cases hd'
      unfold Config.startThreshold at hcount
      omega
    obtain ⟨hsome, hcompletion, hoverdue, k, hk, hbound⟩ := (LaneUnit.holdOk_armed hstate).mp h.hold
    refine ⟨rfl, rfl, ⟨(LaneUnit.holdOk_turning rfl).mpr ⟨hsome, hcompletion, ?_, ?_⟩, hrotor, h.live, h.preload,
      h.forced, h.gate.move rfl ?_ ⟨LaneState.noConfusion, LaneState.noConfusion⟩, h.off⟩, fun _ => ⟨rfl, rfl⟩⟩
    · refine iff_of_false (fun hnone => ?_) (fun htrue => ?_)
      · have hnone : lu.armTimer = none := hnone
        rw [hnone] at hk
        cases hk
      · have htrue : lu.overdue = true := htrue
        rw [htrue] at hoverdue
        cases hoverdue
    · intro k' hk'
      have hk' : lu.armTimer = some k' := hk'
      rw [hk'] at hk
      cases hk
      exact hbound
    · rw [hstate]
      decide
  | returns hstate hnot hoverdue =>
    obtain ⟨hsome, hcompletion, htimer, hbound⟩ := (LaneUnit.holdOk_turning hstate).mp h.hold
    refine ⟨rfl, rfl, ⟨(LaneUnit.holdOk_armed rfl).mpr ⟨hsome, hcompletion, hoverdue, ?_⟩,
      h.rotor.move h.live hnot rfl rfl rfl (fun hs => nomatch hs), h.live, h.preload,
      h.forced, h.gate.move rfl ?_ ⟨LaneState.noConfusion, LaneState.noConfusion⟩, h.off⟩, fun _ => ⟨rfl, rfl⟩⟩
    · have hrunning : lu.armTimer ≠ none := fun hnone => by
        rw [htimer.mp hnone] at hoverdue
        cases hoverdue
      obtain ⟨k, hk⟩ := Option.ne_none_iff_exists'.mp hrunning
      exact ⟨k, hk, hbound k hk⟩
    · rw [hstate]
      decide
  | expires hstate hnot =>
    refine ⟨rfl, rfl, h.locks (by rw [hstate]; rfl) rfl rfl rfl ?_ rfl ?_ rfl rfl rfl, fun _ => ⟨rfl, rfl⟩⟩
    · exact LaneUnit.raise_completion_ne_none _ .expiry
    · exact h.rotor.move h.live hnot rfl rfl rfl fun hs => nomatch hs

theorem LaneUnit.Stepped.keepsRaised {e : Side} {now : VenueTime} (hstep : lu.Stepped e now lu') :
    lu.KeepsRaised lu' := by
  cases hstep with
  | forced => exact ⟨id, fun _ => lt_min (Nat.succ_pos _) (by decide)⟩
  | commits d => exact ⟨fun _ => LaneUnit.raise_completion_ne_none _ (.commit now), id⟩
  | expires => exact .of_raise rfl
  | _ => exact ⟨id, id⟩

/-! ### The preload (R130) -/

theorem LaneUnit.settlePreload_cases (lu : LaneUnit) (named : Bool) :
    (lu.hold = none ∧ lu.accumulator = 0 ∧ lu.settlePreload named = lu.loadPreload) ∨
      lu.settlePreload named = lu := by
  unfold LaneUnit.settlePreload
  split
  · rename_i h
    obtain ⟨-, hhold, hzero⟩ := h
    exact .inl ⟨hhold, hzero, rfl⟩
  · exact .inr rfl

/-- The preload becomes live at A = 0 alone, where no threshold is reached (R116, R130). -/
theorem LaneUnit.Safe.settlePreload_runs (h : lu.Safe evac) (named : Bool) : lu.Runs (lu.settlePreload named) evac := by
  obtain ⟨hhold, hzero, heq⟩ | heq := lu.settlePreload_cases named <;> rw [heq]
  · exact ⟨rfl, rfl, ⟨h.hold, .of_zero hzero h.preload fun _ => hhold, h.preload, h.preload, h.forced, h.gate,
      h.off⟩, id⟩
  · exact h.runs_self

theorem LaneUnit.settlePreload_keepsRaised (lu : LaneUnit) (named : Bool) :
    lu.KeepsRaised (lu.settlePreload named) := by
  obtain ⟨-, -, heq⟩ | heq := lu.settlePreload_cases named <;> rw [heq] <;> exact ⟨id, id⟩

/-! ### Encoder pairs, the arm timer, withdraw commands (R107, R113, R125) -/

theorem LaneUnit.Runs.trans {lu'' : LaneUnit} {evac' : Prop} (h : lu.Runs lu' evac)
    (h' : lu'.Runs lu'' evac') : lu.Runs lu'' evac' :=
  ⟨h'.role.trans h.role, h'.hold.trans h.hold, h'.safe, h'.locks ∘ h.locks⟩

/-- The reference pair and the tallies are no part of what is kept. -/
theorem LaneUnit.Safe.record_runs (h : lu.Safe evac) (reference : EncoderPair) (tallies : Tallies) :
    lu.Runs { lu with reference, tallies } evac :=
  ⟨rfl, rfl, ⟨h.hold, h.rotor, h.live, h.preload, h.forced, h.gate, h.off⟩, id⟩

theorem LaneUnit.Safe.takePair_runs (h : lu.Safe evac) (pair : EncoderPair) (named : Bool) (now : VenueTime) :
    lu.Runs (lu.takePair pair named now) evac := by
  unfold LaneUnit.takePair
  split
  · rename_i e _
    have hstepped := h.step_runs (h.stepped (lu.applyReversed e) now)
    have hrecorded := hstepped.trans (hstepped.safe.record_runs pair (lu.step (lu.applyReversed e) now).tallies)
    exact hrecorded.trans (hrecorded.safe.settlePreload_runs named)
  · exact h.record_runs pair _

theorem LaneUnit.Safe.takePair_keepsRaised (h : lu.Safe evac) (pair : EncoderPair) (named : Bool)
    (now : VenueTime) : lu.KeepsRaised (lu.takePair pair named now) := by
  unfold LaneUnit.takePair
  split
  · rename_i e _
    obtain ⟨hcompletion, hforced⟩ := (h.stepped (lu.applyReversed e) now).keepsRaised
    have hstepped : lu.KeepsRaised { lu.step (lu.applyReversed e) now with reference := pair } :=
      ⟨hcompletion, hforced⟩
    exact hstepped.trans (LaneUnit.settlePreload_keepsRaised _ named)
  · exact ⟨id, id⟩

theorem LaneUnit.Safe.takeExpiry_runs (h : lu.Safe evac) : lu.Runs lu.takeExpiry evac := by
  unfold LaneUnit.takeExpiry
  split
  · rename_i hs
    exact h.relock_runs (by rw [hs]; rfl) .expiry
  · rename_i hs
    obtain ⟨hsome, hcompletion, -, -⟩ := (LaneUnit.holdOk_turning hs).mp h.hold
    have hhold : LaneUnit.HoldOk { lu with armTimer := none, overdue := true } :=
      (LaneUnit.holdOk_turning (lu := { lu with armTimer := none, overdue := true }) hs).mpr
        ⟨hsome, hcompletion, iff_of_true rfl rfl, fun k hk => nomatch hk⟩
    exact ⟨rfl, rfl, ⟨hhold, h.rotor, h.live, h.preload, h.forced, h.gate, h.off⟩, id⟩
  · rename_i harmed hturning
    have hrest := h.rest (by cases hs : lu.state <;> simp_all [LaneState.underHold])
    have hsame : { lu with armTimer := none } = lu := by rw [← hrest.2]
    rw [hsame]
    exact h.runs_self

theorem LaneUnit.takeExpiry_keepsRaised (lu : LaneUnit) : lu.KeepsRaised lu.takeExpiry := by
  unfold LaneUnit.takeExpiry
  split
  · exact .of_raise rfl
  · exact ⟨id, id⟩
  · exact ⟨id, id⟩

theorem LaneUnit.Safe.tickTimer_runs (h : lu.Safe evac) : lu.Runs lu.tickTimer evac := by
  have hbound {limit : Nat} (hk : ∀ k ∈ lu.armTimer, k ≤ limit) : ∀ k ∈ lu.tickTimer.armTimer, k ≤ limit := by
    intro k hk'
    obtain ⟨k₀, hk₀, rfl⟩ := Option.map_eq_some_iff.mp hk'
    exact (Nat.sub_le _ _).trans (hk k₀ hk₀)
  have hnone : lu.tickTimer.armTimer = none ↔ lu.armTimer = none := Option.map_eq_none_iff
  refine ⟨rfl, rfl, ⟨?_, h.rotor, h.live, h.preload, h.forced, h.gate, h.off⟩, id⟩
  cases hs : lu.state.underHold with
  | false =>
    obtain ⟨-, htimer⟩ := h.rest hs
    have hsame : lu.tickTimer = lu := by rw [LaneUnit.tickTimer, htimer, Option.map_none, ← htimer]
    rw [hsame]
    exact h.hold
  | true =>
    cases hstate : lu.state with
    | armed =>
      obtain ⟨hsome, hcompletion, hoverdue, k, hk, hlimit⟩ := (LaneUnit.holdOk_armed hstate).mp h.hold
      refine (LaneUnit.holdOk_armed (lu := lu.tickTimer) hstate).mpr
        ⟨hsome, hcompletion, hoverdue, k - 1, ?_, (Nat.sub_le _ _).trans hlimit⟩
      exact Option.map_eq_some_iff.mpr ⟨k, hk, rfl⟩
    | turning =>
      obtain ⟨hsome, hcompletion, htimer, hlimit⟩ := (LaneUnit.holdOk_turning hstate).mp h.hold
      exact (LaneUnit.holdOk_turning (lu := lu.tickTimer) hstate).mpr
        ⟨hsome, hcompletion, hnone.trans htimer, hbound hlimit⟩
    | _ => simp [hstate, LaneState.underHold] at hs

theorem LaneUnit.Safe.takeWithdraw_runs (h : lu.Safe evac) : lu.Runs lu.takeWithdraw evac := by
  unfold LaneUnit.takeWithdraw
  split
  · rename_i hs
    exact h.relock_runs (by rw [hs]; rfl) .withdrawn
  · exact h.runs_self

theorem LaneUnit.takeWithdraw_keepsRaised (lu : LaneUnit) : lu.KeepsRaised lu.takeWithdraw := by
  unfold LaneUnit.takeWithdraw
  split
  · exact .of_raise rfl
  · exact .refl _

end

end Sys2Proof.Machine
end

section
/-! The lane units under EVAC, the commands of the Decision Engine and its services (R83, R88, R92 to R96, R123, R131,
R132, R136, R173, R174). -/

namespace Sys2Proof.Machine

section
variable {lu lu' : LaneUnit} {evac : Prop}

/-! ### EVAC and RST -/

/-- A FREE lane with no timer running is safe under EVAC (R118, R173). -/
theorem LaneUnit.Safe.frees (h : lu.Safe evac) (hstate : lu'.state = .free) (hrole : lu'.role = lu.role)
    (hhold : lu'.hold = lu.hold) (hcompletion : lu.hold ≠ none ↔ lu'.completion ≠ none) (htimer : lu'.armTimer = none)
    (haccumulator : lu'.accumulator = lu.accumulator) (hcounted : lu'.counted = lu.counted)
    (hlive : lu'.live = lu.live) (hpreload : lu'.preload = lu.preload)
    (hforced : lu'.forcedReports = lu.forcedReports) : lu'.Safe True where
  hold := by
    rw [LaneUnit.holdOk_rest (.inr hstate), hhold]
    exact ⟨hcompletion, htimer⟩
  rotor := h.rotor.of_eq haccumulator hcounted (congrArg Settings.threshold hlive) fun hs => by
    rw [hstate] at hs
    cases hs
  live := by rw [hlive]; exact h.live
  preload := by rw [hpreload]; exact h.preload
  forced := by rw [hforced]; exact h.forced
  gate := ⟨iff_of_true trivial hstate, fun hnot => absurd trivial hnot⟩
  off := by rw [hrole, hhold]; exact h.off

theorem LaneUnit.Safe.takeFree_runs (h : lu.Safe evac) : lu.Runs lu.takeFree True := by
  have freed (hunder : lu.state.underHold = true) :
      lu.Runs ((LaneUnit.goTo { lu with armTimer := none, overdue := false } .free).raise .withdrawn) True :=
    ⟨rfl, rfl, h.frees rfl rfl rfl
      (iff_of_true (h.underHold hunder).1 (LaneUnit.raise_completion_ne_none _ .withdrawn)) rfl rfl rfl rfl rfl rfl,
      fun _ => ⟨rfl, rfl⟩⟩
  have rested (hunder : lu.state.underHold = false) :
      lu.Runs (LaneUnit.goTo { lu with overdue := false } .free) True := by
    obtain ⟨hcompletion, htimer⟩ := h.rest hunder
    exact ⟨rfl, rfl, h.frees rfl rfl rfl hcompletion htimer rfl rfl rfl rfl rfl, fun _ => ⟨rfl, rfl⟩⟩
  cases hs : lu.state <;> simp only [LaneUnit.takeFree, hs]
  case armed => exact freed (by rw [hs]; rfl)
  case turning => exact freed (by rw [hs]; rfl)
  all_goals exact rested (by rw [hs]; rfl)

theorem LaneUnit.takeFree_keepsRaised (lu : LaneUnit) : lu.KeepsRaised lu.takeFree := by
  unfold LaneUnit.takeFree
  split
  · exact .of_raise rfl
  · exact .of_raise rfl
  · exact ⟨id, id⟩

theorem Role.restingState_eq_locked {r : Role} (h : r ≠ .off) : r.restingState = .locked := by
  cases r with
  | off => exact absurd rfl h
  | _ => rfl

/-- A lane at its role's resting state, with a hold exactly under a raised completion and no hold for role OFF, is
safe outside EVAC (R118). -/
theorem LaneUnit.holdOk_resting (hstate : lu.state = lu.role.restingState) (htimer : lu.armTimer = none)
    (hcompletion : lu.hold ≠ none ↔ lu.completion ≠ none) (hoff : lu.role = .off → lu.hold = none) : lu.HoldOk := by
  by_cases hrole : lu.role = .off
  · have hclosed : lu.state = .closed := by rw [hstate, hrole]; rfl
    have hhold := hoff hrole
    refine (LaneUnit.holdOk_closed hclosed).mpr ⟨hhold, ?_, htimer⟩
    by_contra hraised
    exact hcompletion.mpr hraised hhold
  · have hlocked : lu.state = .locked := by
      rw [hstate]
      exact Role.restingState_eq_locked hrole
    exact (LaneUnit.holdOk_rest (.inl hlocked)).mpr ⟨hcompletion, htimer⟩

theorem LaneUnit.gateFits_resting (hstate : lu.state = lu.role.restingState) : lu.GateFits False := by
  rw [LaneUnit.GateFits, hstate]
  exact ⟨iff_of_false id (Role.restingState_ne_free _), fun _ => Role.restingState_eq_closed _⟩

theorem LaneUnit.Safe.takeUnfree_runs (h : lu.Safe evac) : lu.Runs lu.takeUnfree False := by
  unfold LaneUnit.takeUnfree
  split
  · rename_i hs
    obtain ⟨hcompletion, htimer⟩ := h.rest (by rw [hs]; rfl)
    refine ⟨rfl, rfl, ⟨LaneUnit.holdOk_resting rfl htimer hcompletion h.off, ?_, h.live, h.preload, h.forced,
      LaneUnit.gateFits_resting rfl, h.off⟩, fun _ => ⟨rfl, rfl⟩⟩
    refine h.rotor.of_eq rfl rfl rfl fun hturning => ?_
    have hturning : lu.role.restingState = .turning := hturning
    cases hrole : lu.role <;> rw [hrole] at hturning <;> cases hturning
  · rename_i hnotFree
    obtain ⟨hfree, hclosed⟩ := h.gate
    have hgate : ¬evac := fun he => hnotFree (hfree.mp he)
    exact ⟨rfl, rfl, ⟨h.hold, h.rotor, h.live, h.preload, h.forced,
      ⟨iff_of_false id hnotFree, fun _ => hclosed hgate⟩, h.off⟩, id⟩

theorem LaneUnit.takeUnfree_keepsRaised (lu : LaneUnit) : lu.KeepsRaised lu.takeUnfree := by
  unfold LaneUnit.takeUnfree
  split <;> exact ⟨id, id⟩

theorem LaneUnit.Safe.followPin (h : lu.Safe evac) (pin : Bool) : (lu.followPin pin).Safe evac :=
  ⟨h.hold, h.rotor, h.live, h.preload, h.forced, h.gate, h.off⟩

/-- Every lane unit is at rest with its preload live after a warm reset (R136). -/
theorem LaneUnit.Safe.warmReset (h : lu.Safe evac) (pair : EncoderPair) (pin : Bool) :
    (lu.warmReset pair pin).Safe (pin = true) ∧ (lu.warmReset pair pin).LocksFit ∧
      (lu.warmReset pair pin).hold = none := by
  refine ⟨?_, ⟨rfl, rfl⟩, rfl⟩
  have hrotor : (lu.warmReset pair pin).RotorOk := .of_zero rfl h.preload fun _ => rfl
  cases pin with
  | true =>
    exact ⟨(LaneUnit.holdOk_rest (.inr rfl)).mpr ⟨iff_of_false (fun h => h rfl) (fun h => h rfl), rfl⟩, hrotor,
      h.preload, h.preload, Nat.zero_le _, ⟨iff_of_true rfl rfl, fun hnot => absurd rfl hnot⟩, fun _ => rfl⟩
  | false =>
    obtain ⟨hfree, hclosed⟩ := LaneUnit.gateFits_resting (lu := lu.warmReset pair false) rfl
    exact ⟨LaneUnit.holdOk_resting rfl rfl (iff_of_false (fun h => h rfl) (fun h => h rfl)) (fun _ => rfl), hrotor,
      h.preload, h.preload, Nat.zero_le _, ⟨iff_of_false Bool.false_ne_true (Role.restingState_ne_free _),
      fun _ => hclosed id⟩, fun _ => rfl⟩

/-! ### The commands of the Decision Engine -/

/-- What an arm command keeps and begins at a lane whose role is not OFF and that has no hold (R92, R93). -/
structure LaneUnit.Arms (lu lu' : LaneUnit) (evac : Prop) (d : Side) : Prop where
  role : lu'.role = lu.role
  hold : lu'.hold = some d
  safe : lu'.Safe evac
  locks : lu.LocksFit → lu'.LocksFit

theorem LaneUnit.Safe.takeArm (h : lu.Safe evac) (hhold : lu.hold = none) (hrole : lu.role ≠ .off) (d : Side) :
    lu.Arms (lu.takeArm d) evac d := by
  have hunder : lu.state.underHold = false := by
    by_contra hunder
    exact (h.underHold (Bool.eq_true_of_not_eq_false hunder)).1 hhold
  obtain ⟨hcompletion, htimer⟩ := h.rest hunder
  have hnone : lu.completion = none := by
    by_contra hraised
    exact hcompletion.mpr hraised hhold
  obtain ⟨hfree, hclosed⟩ := h.gate
  have hoff {p : Prop} (hr : lu.role = .off) : p := absurd hr hrole
  unfold LaneUnit.takeArm
  split
  · rename_i hs
    refine ⟨rfl, rfl, ⟨?_, ?_, h.live, h.preload, h.forced, ?_, hoff⟩, fun _ => ⟨rfl, rfl⟩⟩
    · exact (LaneUnit.holdOk_armed rfl).mpr ⟨Option.some_ne_none d, hnone, rfl, _, rfl, h.live.window⟩
    · exact h.rotor.of_eq rfl rfl rfl fun hturning => nomatch hturning
    · refine h.gate.move rfl ?_ ⟨LaneState.noConfusion, LaneState.noConfusion⟩
      rw [hs]
      decide
  · rename_i hs
    have hraised := LaneUnit.raise_completion_ne_none { lu with hold := some d, overdue := false } .withdrawn
    have hhold' : LaneUnit.HoldOk (LaneUnit.raise { lu with hold := some d, overdue := false } .withdrawn) :=
      (LaneUnit.holdOk_rest (lu := LaneUnit.raise { lu with hold := some d, overdue := false } .withdrawn)
        (.inr hs)).mpr ⟨iff_of_true (Option.some_ne_none d) hraised, htimer⟩
    refine ⟨rfl, rfl, ⟨hhold', h.rotor.of_eq rfl rfl rfl fun hturning => ?_, h.live, h.preload, h.forced, h.gate, hoff⟩,
      fun hlocks => ?_⟩
    · have hturning : lu.state = .turning := hturning
      rw [hs] at hturning
      cases hturning
    · unfold LaneUnit.LocksFit LaneUnit.lockInLevel LaneUnit.lockOutLevel at *
      simpa [LaneUnit.raise, hs] using hlocks
  · rename_i hnotLocked hnotFree
    have hgate : ¬evac := fun he => hnotFree (hfree.mp he)
    cases hs : lu.state with
    | closed => exact hoff ((hclosed hgate).mp hs)
    | locked => exact absurd hs hnotLocked
    | free => exact absurd hs hnotFree
    | _ =>
      rw [hs] at hunder
      cases hunder

theorem LaneUnit.takeArm_keepsRaised (lu : LaneUnit) (d : Side) : lu.KeepsRaised (lu.takeArm d) := by
  unfold LaneUnit.takeArm
  split
  · exact ⟨id, id⟩
  · exact .of_raise rfl
  · exact .refl _

/-! ### The end of a hold -/

/-- A lane whose hold ends outside ARMED and TURNING is safe, and its locks stay (R96, R126, R130). -/
theorem LaneUnit.released_safe (hunder : lu.state.underHold = false) (htimer : lu.armTimer = none)
    (hrotor : lu.RotorOk) (hlive : lu.live.Ok) (hpreload : lu.preload.Ok)
    (hforced : lu.forcedReports ≤ Config.forcedLimit) (hgate : lu.GateFits evac) : lu.released.Safe evac where
  hold := by
    have hnone : ((none : Option Side) ≠ none ↔ (none : Option Completion) ≠ none) := by simp
    cases hs : lu.state with
    | closed => exact (LaneUnit.holdOk_closed (lu := lu.released) hs).mpr ⟨rfl, rfl, htimer⟩
    | locked => exact (LaneUnit.holdOk_rest (lu := lu.released) (.inl hs)).mpr ⟨hnone, htimer⟩
    | free => exact (LaneUnit.holdOk_rest (lu := lu.released) (.inr hs)).mpr ⟨hnone, htimer⟩
    | _ =>
      rw [hs] at hunder
      cases hunder
  rotor := by
    by_cases hzero : lu.accumulator = 0
    · exact .of_zero (lu := lu.released) hzero (by rw [LaneUnit.released, if_pos hzero]; exact hpreload) fun _ => rfl
    · refine hrotor.of_eq (lu' := lu.released) rfl rfl (by rw [LaneUnit.released, if_neg hzero]) fun hs => ?_
      have hs : lu.state = .turning := hs
      rw [hs] at hunder
      cases hunder
  live := by
    unfold LaneUnit.released
    dsimp only
    split
    · exact hpreload
    · exact hlive
  preload := hpreload
  forced := hforced
  gate := hgate
  off _ := rfl

theorem LaneUnit.LocksFit.released (h : lu.LocksFit) (hunder : lu.state.underHold = false) :
    lu.released.LocksFit := by
  unfold LaneUnit.LocksFit LaneUnit.lockInLevel LaneUnit.lockOutLevel at *
  rw [hunder] at h
  simpa [LaneUnit.released, hunder] using h

theorem LaneUnit.endHold_hold (lu : LaneUnit) : lu.endHold.hold = none := by
  rw [LaneUnit.endHold_eq_released]
  rfl

theorem LaneUnit.Safe.endHold (h : lu.Safe evac) (hunder : lu.state.underHold = false) : lu.endHold.Safe evac := by
  rw [LaneUnit.endHold_eq_released]
  exact LaneUnit.released_safe hunder (h.rest hunder).2 h.rotor h.live h.preload h.forced h.gate

theorem LaneUnit.LocksFit.endHold (h : lu.LocksFit) (hunder : lu.state.underHold = false) : lu.endHold.LocksFit := by
  rw [LaneUnit.endHold_eq_released]
  exact h.released hunder

/-- A CANCEL's relock and the end of the hold (R88, R104). -/
theorem LaneUnit.Safe.relock_endHold (h : lu.Safe evac) (hstate : lu.state = .armed) :
    lu.relock.endHold.Safe evac ∧ lu.relock.endHold.LocksFit := by
  have hlocks : lu.relock.LocksFit := ⟨rfl, rfl⟩
  refine ⟨?_, hlocks.endHold rfl⟩
  rw [LaneUnit.endHold_eq_released]
  refine LaneUnit.released_safe rfl rfl ?_ h.live h.preload h.forced ?_
  · exact h.rotor.of_eq rfl rfl rfl fun hs => nomatch hs
  · exact h.gate.move rfl (by rw [hstate]; decide) ⟨LaneState.noConfusion, LaneState.noConfusion⟩

/-! ### Forced reports and SET_LANE -/

theorem LaneUnit.Safe.takeReport_runs (h : lu.Safe evac) :
    lu.Runs { lu with forcedReports := lu.forcedReports - 1 } evac :=
  ⟨rfl, rfl, ⟨h.hold, h.rotor, h.live, h.preload, (Nat.sub_le _ _).trans h.forced, h.gate, h.off⟩, id⟩

/-- A role that changes at a lane without a hold (R131, R132). -/
theorem LaneUnit.Safe.takeRole (h : lu.Safe evac) (hhold : lu.hold = none) (r : Role) :
    (lu.takeRole r).Safe evac ∧ (lu.takeRole r).role = r ∧ (lu.takeRole r).hold = none ∧
      (lu.LocksFit → (lu.takeRole r).LocksFit) := by
  have hunder : lu.state.underHold = false := by
    by_contra hunder
    exact (h.underHold (Bool.eq_true_of_not_eq_false hunder)).1 hhold
  obtain ⟨hcompletion, htimer⟩ := h.rest hunder
  obtain ⟨hfree, -⟩ := h.gate
  have rested (hs : lu.state ≠ .free) : (LaneUnit.goTo { lu with role := r } r.restingState).Safe evac ∧
      (LaneUnit.goTo { lu with role := r } r.restingState).role = r ∧
      (LaneUnit.goTo { lu with role := r } r.restingState).hold = none ∧
      (lu.LocksFit → (LaneUnit.goTo { lu with role := r } r.restingState).LocksFit) := by
    have hgate : ¬evac := fun he => hs (hfree.mp he)
    obtain ⟨-, hclosed⟩ := LaneUnit.gateFits_resting (lu := LaneUnit.goTo { lu with role := r } r.restingState) rfl
    refine ⟨⟨LaneUnit.holdOk_resting rfl htimer hcompletion fun _ => hhold, ?_, h.live, h.preload, h.forced,
      ⟨iff_of_false hgate (Role.restingState_ne_free r), fun _ => hclosed id⟩, fun _ => hhold⟩, rfl, hhold,
      fun _ => ⟨rfl, rfl⟩⟩
    refine h.rotor.of_eq rfl rfl rfl fun hturning => ?_
    have hturning : r.restingState = .turning := hturning
    cases r <;> cases hturning
  unfold LaneUnit.takeRole
  dsimp only
  split
  · rename_i hs
    exact rested (by rw [hs]; exact LaneState.noConfusion)
  · rename_i hs
    exact rested (by rw [hs]; exact LaneState.noConfusion)
  · rename_i hnotClosed hnotLocked
    have hs : lu.state = .free := by
      cases hs : lu.state with
      | closed => exact absurd hs hnotClosed
      | locked => exact absurd hs hnotLocked
      | free => rfl
      | _ =>
        rw [hs] at hunder
        cases hunder
    have hhold' : LaneUnit.HoldOk { lu with role := r } :=
      (LaneUnit.holdOk_rest (lu := { lu with role := r }) (.inr hs)).mpr ⟨hcompletion, htimer⟩
    refine ⟨⟨hhold', h.rotor, h.live, h.preload, h.forced, ⟨hfree, fun hnot => absurd (hfree.mpr hs) hnot⟩,
      fun _ => hhold⟩, rfl, hhold, fun hlocks => ?_⟩
    unfold LaneUnit.LocksFit LaneUnit.lockInLevel LaneUnit.lockOutLevel at *
    simpa [hs] using hlocks

/-- SET_LANE at a lane unit: the role as carried, the hold, and safety in the ranges that the request keeps (R131,
R132). -/
structure LaneUnit.Changes (lu lu' : LaneUnit) (evac : Prop) (role : Role) : Prop where
  role : lu'.role = role
  hold : lu'.hold = lu.hold
  safe : lu'.Safe evac
  locks : lu.LocksFit → lu'.LocksFit

theorem LaneUnit.Safe.changeRole (h : lu.Safe evac) {role : Option Role}
    (hrole : lu.hold ≠ none → role.getD lu.role = lu.role) :
    lu.Changes (lu.changeRole role) evac (role.getD lu.role) := by
  unfold LaneUnit.changeRole
  split
  · rename_i r
    rw [Option.getD_some] at hrole ⊢
    split
    · rename_i hsame
      rw [hsame]
      exact ⟨rfl, rfl, h, id⟩
    · rename_i hnew
      have hhold : lu.hold = none := by
        by_contra hsome
        exact hnew (hrole hsome)
      obtain ⟨hsafe, hr, hhold', hlocks⟩ := h.takeRole hhold r
      exact ⟨hr, hhold'.trans hhold.symm, hsafe, hlocks⟩
  · exact ⟨rfl, rfl, h, id⟩

theorem LaneUnit.Safe.writePreload_runs (h : lu.Safe evac) {c : LaneChange}
    (hwindow : ∀ w ∈ c.window, Config.minWindow ≤ w ∧ w ≤ Config.maxWindow)
    (hthreshold : ∀ k ∈ c.threshold, Config.minThreshold ≤ k ∧ k ≤ Config.maxThreshold) :
    lu.Runs (lu.writePreload c) evac := by
  obtain ⟨hlow, hhigh, hleast, hgreatest⟩ := h.preload
  have hw : Config.minWindow ≤ c.window.getD lu.preload.window ∧
      c.window.getD lu.preload.window ≤ Config.maxWindow := by
    cases hc : c.window with
    | none => exact ⟨hlow, hhigh⟩
    | some w => exact hwindow w hc
  have hk : Config.minThreshold ≤ c.threshold.getD lu.preload.threshold ∧
      c.threshold.getD lu.preload.threshold ≤ Config.maxThreshold := by
    cases hc : c.threshold with
    | none => exact ⟨hleast, hgreatest⟩
    | some k => exact hthreshold k hc
  exact ⟨rfl, rfl, ⟨h.hold, h.rotor, h.live, ⟨hw.1, hw.2, hk.1, hk.2⟩, h.forced, h.gate, h.off⟩, id⟩

theorem LaneUnit.Safe.setLane (h : lu.Safe evac) {c : LaneChange} (named : Bool)
    (hrole : lu.hold ≠ none → c.role.getD lu.role = lu.role)
    (hwindow : ∀ w ∈ c.window, Config.minWindow ≤ w ∧ w ≤ Config.maxWindow)
    (hthreshold : ∀ k ∈ c.threshold, Config.minThreshold ≤ k ∧ k ≤ Config.maxThreshold) :
    lu.Changes (((lu.changeRole c.role).writePreload c).settlePreload named) evac (c.role.getD lu.role) := by
  have hchanged := h.changeRole hrole
  have hwritten := hchanged.safe.writePreload_runs hwindow hthreshold
  have hsettled := hwritten.trans (hwritten.safe.settlePreload_runs named)
  exact ⟨hsettled.role.trans hchanged.role, hsettled.hold.trans hchanged.hold, hsettled.safe,
    hsettled.locks ∘ hchanged.locks⟩

end

end Sys2Proof.Machine
end

section
/-! The lane units of the part, with their gate and their locks, over every effect (R90, R107, R113 to R136, R169). -/

namespace Sys2Proof.Machine

/-- A lane unit is safe, and its lock outputs follow the table of R126, or the EVAC pin while RST is asserted. -/
structure LaneUnit.Fits (lu : LaneUnit) (evac : Prop) (rst pin : Bool) : Prop where
  safe : lu.Safe evac
  held : rst = true → lu.lockIn = pin ∧ lu.lockOut = pin
  follows : rst = false → lu.LocksFit

/-- Every lane unit fits the gate, the RST input and the EVAC pin. -/
abbrev State.LanesFit (s : State) : Prop :=
  ∀ n : Lane, (s.lanes.get n).Fits (s.gc.gate = .evac) s.rstAsserted s.evacPin

section
variable {lu lu' : LaneUnit} {evac evac' : Prop} {rst pin : Bool}

theorem LaneUnit.Fits.of_running (hsafe : lu.Safe evac) (hlocks : lu.LocksFit) (hrst : rst = false) :
    lu.Fits evac rst pin where
  safe := hsafe
  held h := by
    rw [hrst] at h
    cases h
  follows _ := hlocks

theorem LaneUnit.Safe.congr (h : lu.Safe evac) (hevac : evac ↔ evac') : lu.Safe evac' := propext hevac ▸ h

theorem LaneUnit.Fits.run (h : lu.Fits evac rst pin) (hrst : rst = false) (hruns : lu.Runs lu' evac') :
    lu'.Fits evac' rst pin :=
  .of_running hruns.safe (hruns.locks (h.follows hrst)) hrst

end

section
variable {s t : State}

/-- The lane units of a safe state are safe (R131: a lane with a hold is not OFF). -/
theorem State.Inv.lanesFit (h : s.Inv) : s.LanesFit := by
  intro n
  obtain ⟨hhold, hbond, -, hnamed⟩ := h.lanes n
  obtain ⟨hrotor, hlive, hpreload⟩ := h.rotors n
  obtain ⟨-, hgate⟩ := h.gate
  obtain ⟨-, -, -, -, hcounts⟩ := h.counts
  have hlocks := h.locks n
  refine ⟨⟨hhold, hrotor, hlive, hpreload, (hcounts n).1, hgate n, fun hoff => ?_⟩, fun hrst => ?_, fun hrst => ?_⟩
  · by_contra hsome
    have hdirection : s.heldDirection n ≠ none := hbond hsome ▸ hsome
    have hcontext : (s.contexts.get n).holdRef ≠ none := by
      intro hnone
      rw [State.heldDirection, State.heldAt, hnone] at hdirection
      exact hdirection rfl
    exact (hnamed hcontext).1 hoff
  · rw [if_pos hrst] at hlocks
    exact hlocks
  · rw [if_neg (by rw [hrst]; exact Bool.false_ne_true)] at hlocks
    exact hlocks

theorem State.LanesFit.setLane (h : s.LanesFit) (n : Lane) {lu : LaneUnit}
    (hlu : lu.Fits (s.gc.gate = .evac) s.rstAsserted s.evacPin) : (s.setLane n lu).LanesFit := by
  intro m
  rw [State.setLane_lanes, get_set]
  split
  · exact hlu
  · exact h m

theorem State.rstAsserted_of_serving {item : Service} (h : s.serving = some item) : s.rstAsserted = false :=
  ((s.serving_eq_some item).mp h).1

/-- The arm command in flight finds its lane without a hold and not OFF (R91, R131). -/
theorem State.Inv.armed (h : s.Inv) {n : Lane} {d : Side} {rest : List LaneCommand}
    (hcommands : s.commands = .arm n d :: rest) :
    (s.lanes.get n).hold = none ∧ (s.contexts.get n).holdRef ≠ none ∧ (s.lanes.get n).role ≠ .off ∧
      s.heldDirection n = some d ∧ rest = [] := by
  obtain ⟨-, -, hflight, hnamed⟩ := h.lanes n
  obtain ⟨hlength, -, hfit⟩ := h.commands
  rw [hcommands] at hlength hfit
  have hflying : s.armInFlight n = true := by
    rw [State.armInFlight, hcommands]
    cases d <;> simp
  obtain ⟨hhold, hcontext⟩ := hflight hflying
  refine ⟨hhold, hcontext, (hnamed hcontext).1, hfit _ List.mem_cons_self, ?_⟩
  exact List.length_eq_zero_iff.mp (Nat.le_zero.mp (Nat.le_of_succ_le_succ hlength))

/-- At most one command is in flight, so that taking them all takes that one (R91). -/
theorem State.Inv.settleCommands_cases (h : s.Inv) :
    s.settleCommands = s ∨ ∃ c, s.commands = [c] ∧ s.settleCommands = { s with commands := [] }.takeLaneCommand c := by
  obtain ⟨hlength, -, -⟩ := h.commands
  match hcommands : s.commands with
  | [] =>
    refine .inl ?_
    rw [State.settleCommands, hcommands, List.foldl_nil, ← hcommands]
  | [c] => exact .inr ⟨c, rfl, by rw [State.settleCommands, hcommands]; rfl⟩
  | _ :: _ :: _ =>
    rw [hcommands] at hlength
    simp at hlength

theorem State.LanesFit.takeLaneCommand (h : s.Inv) (hrst : s.rstAsserted = false) {c : LaneCommand}
    {rest : List LaneCommand} (hcommands : s.commands = c :: rest) :
    ({ s with commands := rest }.takeLaneCommand c).LanesFit := by
  have hfit : State.LanesFit { s with commands := rest } := h.lanesFit
  cases c with
  | arm n d =>
    obtain ⟨hhold, -, hrole, -, -⟩ := h.armed hcommands
    have harms := (h.lanesFit n).safe.takeArm hhold hrole d
    exact hfit.setLane n (.of_running harms.safe (harms.locks ((h.lanesFit n).follows hrst)) hrst)
  | withdraw n => exact hfit.setLane n ((h.lanesFit n).run hrst (h.lanesFit n).safe.takeWithdraw_runs)

theorem State.LanesFit.holdEnds (h : s.LanesFit) {slot : Nat} {r : Record} {x : Hold}
    (hends : s.HoldEnds slot r x t) : t.LanesFit := by
  rw [hends.frame]
  exact h

theorem State.LanesFit.laneWork (h : s.LanesFit) (hrst : s.rstAsserted = false) {n : Lane} (hwork : s.LaneWork n t) :
    t.LanesFit := by
  cases hwork with
  | nothing => exact h
  | refuse => exact h.setLane n ((h n).run hrst ((h n).safe.record_runs _ _))
  | poll => exact h
  | cancel slot r x u _ hstate hends =>
    obtain ⟨hsafe, hlocks⟩ := (h n).safe.relock_endHold hstate
    have hfit : (s.setLane n (s.lanes.get n).relock.endHold).LanesFit :=
      h.setLane n (.of_running hsafe hlocks hrst)
    intro m
    have hm := hfit m
    rw [hends.frame, State.closeHold_lanes]
    simp only [State.setLane_lanes, get_set, if_true] at hm ⊢
    split
    · simpa [*] using hm
    · simpa [*] using hm
  | grant cred slot r _ _ =>
    obtain ⟨zs, -, heq⟩ := s.grantHold_frame n cred slot r
    rw [heq]
    exact h

theorem State.LanesFit.uplinkWork (h : s.Inv) (hrst : s.rstAsserted = false) (hwork : s.UplinkWork t) :
    t.LanesFit := by
  have hfit := h.lanesFit
  cases hwork with
  | double slot r source time zone =>
    rw [s.report_frame slot r .double source time zone _ rfl]
    exact hfit
  | doubleHeld slot r x zs source time zone =>
    rw [State.report_frame { s with zones := zs } slot r .double source time zone _ rfl]
    exact hfit
  | setGate g hold hnew =>
    intro n
    have hgate : (s.gc.gate = .evac ↔ g = .evac) := iff_of_false hold hnew
    exact ⟨(hfit n).safe.congr hgate, (hfit n).held, (hfit n).follows⟩
  | setLane c hwindow hthreshold hrole =>
    have hunnamed : (s.lanes.get c.lane).hold ≠ none →
        c.role.getD (s.lanes.get c.lane).role = (s.lanes.get c.lane).role := by
      intro hsome
      obtain ⟨-, hbond, -, -⟩ := h.lanes c.lane
      refine hrole fun hnone => ?_
      rw [State.heldDirection, State.heldAt, hnone] at hbond
      exact hsome (hbond hsome)
    have hchanges := (hfit c.lane).safe.setLane (s.contexts.get c.lane).holdRef.isSome hunnamed hwindow hthreshold
    exact hfit.setLane c.lane (.of_running hchanges.safe (hchanges.locks ((hfit c.lane).follows hrst)) hrst)
  | clearTallies =>
    intro n
    rw [State.mapLanes, get_map]
    exact (hfit n).run hrst ((hfit n).safe.record_runs _ .zero)
  | _ => exact hfit

/-- Every effect keeps every lane unit fitting. -/
theorem State.Effect.lanesFit (he : s.Effect t) (h : s.Inv) : t.LanesFit := by
  have hfit := h.lanesFit
  cases he with
  | countTick hrst =>
    intro n
    have hlane : s.countTick.lanes.get n = (s.lanes.get n).tickTimer := get_map _ _ n
    have hgate : s.gc.tickMonitor.gate = s.gc.gate := by rw [s.gc.tickMonitor_frame]
    have hgate' : (s.gc.gate = .evac ↔ s.countTick.gc.gate = .evac) := iff_of_eq (congrArg (· = .evac) hgate.symm)
    rw [hlane]
    have hruns := (hfit n).safe.tickTimer_runs
    exact .of_running (hruns.safe.congr hgate') (hruns.locks ((hfit n).follows hrst)) hrst
  | expiry n hrst => exact hfit.setLane n ((hfit n).run hrst (hfit n).safe.takeExpiry_runs)
  | assertEvac hdue =>
    have hrst : s.rstAsserted = false := by simp_all [State.evacAssertionDue]
    intro n
    rw [State.assertEvac, State.mapLanes, get_map]
    have hruns := (hfit n).safe.takeFree_runs
    exact .of_running (hruns.safe.congr (iff_of_true trivial rfl)) (hruns.locks ((hfit n).follows hrst)) hrst
  | releaseEvac hdue =>
    have hrst : s.rstAsserted = false := by simp_all [State.evacReleaseDue]
    intro n
    rw [State.releaseEvac, State.mapLanes, get_map]
    have hruns := (hfit n).safe.takeUnfree_runs
    exact .of_running (hruns.safe.congr (iff_of_false id GateState.noConfusion))
      (hruns.locks ((hfit n).follows hrst)) hrst
  | encoder n pair hrst => exact hfit.setLane n ((hfit n).run hrst ((hfit n).safe.takePair_runs pair _ _))
  | command c rest hrst hcommands => exact .takeLaneCommand h hrst hcommands
  | settleCommands hrst =>
    obtain heq | ⟨c, hcommands, heq⟩ := h.settleCommands_cases <;> rw [heq]
    · exact hfit
    · exact .takeLaneCommand h hrst hcommands
  | choose item =>
    rw [State.choose_frame]
    exact hfit
  | hear rx r =>
    rw [GateController.hearFrame_eq]
    exact hfit
  | holdReset =>
    intro n
    rw [State.holdReset, State.mapLanes, get_map]
    exact ⟨(hfit n).safe.followPin _, fun _ => ⟨rfl, rfl⟩, fun hrst => nomatch hrst⟩
  | pin level hrst =>
    intro n
    exact .of_running (hfit n).safe ((hfit n).follows hrst) hrst
  | pinHeld level hrst =>
    intro n
    rw [State.mapLanes, get_map]
    refine ⟨(hfit n).safe.followPin _, fun _ => ⟨rfl, rfl⟩, fun hnot => ?_⟩
    have hnot : s.rstAsserted = false := hnot
    rw [hnot] at hrst
    cases hrst
  | warmReset pins =>
    have hlanes : s.endAllHolds.lanes = s.lanes := by rw [(State.endAllHolds_frame h.table.1).frame]
    rw [State.warmReset_eq]
    generalize s.endAllHolds = u at hlanes
    intro n
    have hlane : (u.clearAtReset pins).lanes.get n = (u.lanes.get n).warmReset (pins.encoders.get n) u.evacPin :=
      get_zipWith _ _ _ n
    have hgc : (u.clearAtReset pins).gc = u.gc.warmReset u.evacPin := rfl
    rw [hlane, hlanes, hgc, GateController.warmReset_eq]
    obtain ⟨hsafe, hlocks, -⟩ := (hfit n).safe.warmReset (pins.encoders.get n) u.evacPin
    refine .of_running (hsafe.congr ?_) hlocks rfl
    cases u.evacPin <;> simp
  | endHold n slot r x howEnded u hserving hcompletion _ hends =>
    have hu := hfit.holdEnds hends
    have hlane : u.lanes.get n = s.lanes.get n := by rw [hends.frame]
    have hrst : u.rstAsserted = false := by
      rw [hends.frame]
      exact State.rstAsserted_of_serving hserving
    have hunder := (hu n).safe.underHold_of_completion (by rw [hlane]; exact hcompletion)
    have hclosed : (u.setLane n (u.lanes.get n).endHold).LanesFit :=
      hu.setLane n (.of_running ((hu n).safe.endHold hunder) (((hu n).follows hrst).endHold hunder) hrst)
    exact hclosed
  | endLaneHold n hserving hcompletion _ =>
    have hrst := State.rstAsserted_of_serving hserving
    have hunder := (hfit n).safe.underHold_of_completion hcompletion
    exact hfit.setLane n
      (.of_running ((hfit n).safe.endHold hunder) (((hfit n).follows hrst).endHold hunder) hrst)
  | forcedReport n hserving =>
    rw [State.reportRecordless_frame]
    have hrst := State.rstAsserted_of_serving hserving
    have htaken : (s.setLane n _).LanesFit := hfit.setLane n ((hfit n).run hrst (hfit n).safe.takeReport_runs)
    exact htaken
  | gateEvent =>
    rw [State.reportRecordless_frame]
    exact hfit
  | lane n q u reply hserving _ hwork =>
    have hu := hfit.laneWork (State.rstAsserted_of_serving hserving) hwork
    exact hu
  | uplink _ ht =>
    obtain ⟨r, u, a, hserving, -, hwork, -⟩ := ht
    have hu := State.LanesFit.uplinkWork h (State.rstAsserted_of_serving hserving) hwork
    exact hu
  | _ => exact hfit

/-- The gate is in EVAC exactly while the accepted EVAC level is asserted (R169). -/
abbrev State.GateAgrees (s : State) : Prop := s.gc.gate = .evac ↔ s.gc.accepted = true

theorem State.GateAgrees.of_eq (h : s.GateAgrees) (hgate : t.gc.gate = s.gc.gate)
    (haccepted : t.gc.accepted = s.gc.accepted) : t.GateAgrees := by
  rw [State.GateAgrees, hgate, haccepted]
  exact h

theorem State.GateAgrees.laneWork (h : s.GateAgrees) {n : Lane} (hwork : s.LaneWork n t) : t.GateAgrees := by
  cases hwork with
  | cancel slot r x u _ _ hends =>
    rw [hends.frame]
    exact h
  | grant cred slot r _ _ =>
    obtain ⟨zs, -, heq⟩ := s.grantHold_frame n cred slot r
    rw [heq]
    exact h
  | _ => exact h

theorem State.GateAgrees.uplinkWork (h : s.GateAgrees) (hwork : s.UplinkWork t) : t.GateAgrees := by
  cases hwork with
  | double slot r source time zone =>
    rw [s.report_frame slot r .double source time zone _ rfl]
    exact h
  | doubleHeld slot r x zs source time zone =>
    rw [State.report_frame { s with zones := zs } slot r .double source time zone _ rfl]
    exact h
  | setGate g hold hnew => exact iff_of_false hnew fun haccepted => hold (h.mpr haccepted)
  | _ => exact h

/-- Every effect keeps the gate with the accepted level. -/
theorem State.Effect.gateAgrees (he : s.Effect t) (h : s.GateAgrees) : t.GateAgrees := by
  cases he with
  | countTick =>
    have hframe := s.gc.tickMonitor_frame
    have hgate : s.gc.tickMonitor.gate = s.gc.gate := by rw [hframe]
    have haccepted : s.gc.tickMonitor.accepted = s.gc.accepted := by rw [hframe]
    exact h.of_eq hgate haccepted
  | assertEvac => exact iff_of_true rfl rfl
  | releaseEvac => exact iff_of_false GateState.noConfusion Bool.false_ne_true
  | command c rest _ _ =>
    rw [State.takeLaneCommand_frame]
    exact h
  | settleCommands =>
    rw [State.settleCommands_frame]
    exact h
  | choose item =>
    rw [State.choose_frame]
    exact h
  | hear rx r =>
    rw [GateController.hearFrame_eq]
    exact h
  | warmReset pins =>
    rw [State.warmReset_eq]
    generalize s.endAllHolds = u
    have hgc : (u.clearAtReset pins).gc = u.gc.warmReset u.evacPin := rfl
    rw [State.GateAgrees, hgc, GateController.warmReset_eq]
    cases u.evacPin <;> simp
  | endHold n slot r x howEnded u _ _ _ hends =>
    rw [hends.frame]
    exact h
  | forcedReport =>
    rw [State.reportRecordless_frame]
    exact h
  | gateEvent =>
    rw [State.reportRecordless_frame]
    exact h
  | lane n q u reply _ _ hwork =>
    have hu := h.laneWork hwork
    exact hu
  | uplink _ ht =>
    obtain ⟨r, u, a, -, -, hwork, -⟩ := ht
    have hu := h.uplinkWork hwork
    exact hu
  | _ => exact h

end

end Sys2Proof.Machine
end

section
/-! The chosen item, the request slots and the reply buffer over every effect (R60, R188, R199 to R201, R205). -/

namespace Sys2Proof.Machine

/-- What an item names is there to be served (R60 to R66). -/
def State.Offers (s : State) (item : Service) : Prop :=
  match item with
  | .completion n => (s.lanes.get n).completion ≠ none
  | .forcedReport n => 0 < (s.lanes.get n).forcedReports
  | .gateEvent => s.gc.events ≠ []
  | .backfill => s.journalHasRoom = true ∧ 0 < s.pendingCount
  | _ => True

/-- The conditions of the invariant on the services and the reply buffer. -/
structure State.Serves (s : State) : Prop where
  offers : ∀ item, s.chosen = some item → s.Offers item
  lanes : ∀ n : Lane, (s.ports.get n).request.isInService = true ↔ s.chosen = some (.laneRequest n)
  uplink : s.uplink.slot.isInService = true ↔ s.chosen = some .uplinkRequest
  busy : (s.uplink.replies.filter fun q => q.status = .busy).length ≤ Config.busyCapacity
  answered : (s.uplink.replies.filter fun q => q.status ≠ .busy).length = bitValue s.uplink.slot.isReplying
  restarting : s.restarting = true → s.chosen = none ∧ (s.uplink.slot.isReplying = true ∨ s.warmResetDue = true)
  due : s.warmResetDue = true → s.restarting = true

theorem State.serves_iff (s : State) : s.Serves ↔ s.ServiceOk ∧ s.UplinkOk := by
  have hoffers : (∀ item, s.chosen = some item → s.Offers item) ↔
      (match s.chosen with
        | some (.completion n) => (s.lanes.get n).completion ≠ none
        | some (.forcedReport n) => 0 < (s.lanes.get n).forcedReports
        | some .gateEvent => s.gc.events ≠ []
        | some .backfill => s.journalHasRoom = true ∧ 0 < s.pendingCount
        | _ => True) := by
    cases hc : s.chosen with
    | none => simp
    | some item => cases item <;> simp [State.Offers]
  constructor
  · rintro ⟨ho, hl, hu, hb, ha, hr, hd⟩
    exact ⟨⟨hoffers.mp ho, hl, hu⟩, hb, ha, hr, hd⟩
  · rintro ⟨⟨ho, hl, hu⟩, hb, ha, hr, hd⟩
    exact ⟨hoffers.mpr ho, hl, hu, hb, ha, hr, hd⟩

/-! ### The slots -/

theorem Port.beginTransfer_request (p : Port) (rst : Bool) : (p.beginTransfer rst).request = p.request := by
  unfold Port.beginTransfer
  split <;> rfl

theorem Port.settleRead_request (p : Port) (noted : Option LaneReply) (overtaken : Bool) (bytes : Nat) :
    (p.settleRead noted overtaken bytes).request = p.request := by
  unfold Port.settleRead
  split
  · split <;> rfl
  · rfl

/-- A request that arrives is not in service at once (R188). -/
theorem Port.takeInbound_inService (p : Port) (i : Inbound) :
    (p.takeInbound i).request.isInService = p.request.isInService := by
  unfold Port.takeInbound
  split
  · rfl
  · rfl
  · cases hp : p.request <;> simp [RequestSlot.isInService]

theorem Port.endTransfer_inService (p : Port) (rst : Bool) (bits : List Bool) :
    (p.endTransfer rst bits).request.isInService = p.request.isInService := by
  unfold Port.endTransfer
  dsimp only
  split
  · split
    · rfl
    · rw [Port.takeInbound_inService, Port.settleRead_request]
  · rfl

/-- A request that arrives fills an EMPTY slot or is answered BUSY while fewer than 7 BUSY replies wait (R199,
R201). -/
theorem UplinkPort.takeRequest_keeps (u : UplinkPort) (r : UplinkRequest)
    (hbusy : (u.replies.filter fun q => q.status = .busy).length ≤ Config.busyCapacity) :
    (u.takeRequest r).slot.isInService = u.slot.isInService ∧
      (u.takeRequest r).slot.isReplying = u.slot.isReplying ∧
      ((u.takeRequest r).replies.filter fun q => q.status = .busy).length ≤ Config.busyCapacity ∧
      ((u.takeRequest r).replies.filter fun q => q.status ≠ .busy) = u.replies.filter fun q => q.status ≠ .busy := by
  unfold UplinkPort.takeRequest
  split
  · rename_i hslot
    rw [hslot]
    exact ⟨rfl, rfl, hbusy, rfl⟩
  · unfold UplinkPort.answerBusy
    split
    · rename_i hroom
      refine ⟨rfl, rfl, ?_, ?_⟩
      · rw [List.filter_append, List.length_append]
        exact hroom
      · simp [List.filter_append]
    · exact ⟨rfl, rfl, hbusy, rfl⟩

/-! ### The arbiter's choice -/

/-- The item that waits, by its class (R60 to R66). -/
def State.Waits (s : State) (item : Service) : Prop :=
  match item with
  | .laneRequest n => (s.ports.get n).request.isWaiting = true
  | .uplinkRequest => s.uplink.slot.isWaiting = true
  | item => s.Offers item

theorem State.waits_of_waitingRequest {s : State} {item : Service} (h : s.waitingRequest = some item) :
    s.Waits item := by
  have lane {n : Lane} (hn : s.waitingLaneRequest = some n) : s.Waits (.laneRequest n) := by
    have := List.find?_some hn
    exact this
  unfold State.waitingRequest at h
  split at h
  · rename_i n hn _
    cases h
    exact lane hn
  · rename_i n hn hslot
    split at h <;> cases h
    · exact lane hn
    · exact hslot
  · rename_i hslot
    cases h
    exact hslot
  · cases h

/-- The item taken waits (R60). -/
theorem State.waits_of_nextService {s : State} {item : Service} (h : s.nextService = some item) : s.Waits item := by
  obtain ⟨offer, hmem, hoffer⟩ := List.exists_of_findSome?_eq_some h
  rw [id_eq] at hoffer
  simp only [List.mem_cons, List.not_mem_nil, or_false] at hmem
  obtain rfl | rfl | rfl | rfl | rfl := hmem
  · obtain ⟨n, hn, rfl⟩ := Option.map_eq_some_iff.mp hoffer
    have hraised := List.find?_some (p := fun n => (s.lanes.get n).completion.isSome) hn
    exact Option.isSome_iff_ne_none.mp hraised
  · obtain ⟨n, hn, rfl⟩ := Option.map_eq_some_iff.mp hoffer
    have hforced := List.find?_some (p := fun n => decide (0 < (s.lanes.get n).forcedReports)) hn
    exact of_decide_eq_true (p := 0 < (s.lanes.get n).forcedReports) hforced
  · split at hoffer
    · cases hoffer
    · cases hoffer
      assumption
  · exact State.waits_of_waitingRequest hoffer
  · split at hoffer
    · rename_i hwaits
      cases hoffer
      rw [State.backfillWaits, Bool.and_eq_true, decide_eq_true_eq] at hwaits
      exact hwaits
    · cases hoffer

/-! ### Every effect -/

section
variable {s t : State}

theorem State.Serves.none_inService (h : s.Serves) (hchosen : ∀ n, s.chosen ≠ some (.laneRequest n)) (n : Lane) :
    (s.ports.get n).request.isInService = false :=
  Bool.eq_false_iff.mpr fun hin => hchosen n ((h.lanes n).mp hin)

/-- What is offered stays, and the slots and the buffer are as they were. -/
theorem State.Serves.keep (h : s.Serves) (hchosen : t.chosen = s.chosen)
    (hoffers : ∀ item, s.Offers item → t.Offers item)
    (hports : ∀ n : Lane, (t.ports.get n).request.isInService = (s.ports.get n).request.isInService)
    (hin : t.uplink.slot.isInService = s.uplink.slot.isInService)
    (hreplying : t.uplink.slot.isReplying = s.uplink.slot.isReplying)
    (hbusy : (t.uplink.replies.filter fun q => q.status = .busy).length ≤ Config.busyCapacity)
    (hanswered : (t.uplink.replies.filter fun q => q.status ≠ .busy)
      = s.uplink.replies.filter fun q => q.status ≠ .busy)
    (hrestarting : t.restarting = s.restarting) (hdue : t.warmResetDue = s.warmResetDue) : t.Serves where
  offers item hitem := hoffers item (h.offers item (hchosen ▸ hitem))
  lanes n := by rw [hports, hchosen]; exact h.lanes n
  uplink := by rw [hin, hchosen]; exact h.uplink
  busy := hbusy
  answered := by rw [hanswered, hreplying]; exact h.answered
  restarting := by rw [hrestarting, hchosen, hreplying, hdue]; exact h.restarting
  due := by rw [hdue, hrestarting]; exact h.due

/-- Lane units that keep what they have raised, and gate events that stay, leave what is offered. -/
theorem State.Offers.run {item : Service} (h : s.Offers item)
    (hraised : ∀ n : Lane, (s.lanes.get n).KeepsRaised (t.lanes.get n))
    (hevents : s.gc.events ≠ [] → t.gc.events ≠ []) (hjournal : t.journal = s.journal)
    (hcount : t.pendingCount = s.pendingCount) : t.Offers item := by
  cases item with
  | completion n => exact (hraised n).completion h
  | forcedReport n => exact (hraised n).forced h
  | gateEvent => exact hevents h
  | backfill =>
    rw [State.Offers, State.journalHasRoom, hjournal, hcount]
    exact h
  | laneRequest n => exact h
  | uplinkRequest => exact h

theorem State.Serves.run (h : s.Serves) (hraised : ∀ n : Lane, (s.lanes.get n).KeepsRaised (t.lanes.get n))
    (hevents : s.gc.events ≠ [] → t.gc.events ≠ []) (hjournal : t.journal = s.journal)
    (hcount : t.pendingCount = s.pendingCount) (hchosen : t.chosen = s.chosen) (hports : t.ports = s.ports)
    (hslot : t.uplink.slot = s.uplink.slot) (hreplies : t.uplink.replies = s.uplink.replies)
    (hrestarting : t.restarting = s.restarting) (hdue : t.warmResetDue = s.warmResetDue) : t.Serves := by
  refine h.keep hchosen (fun item ho => ho.run hraised hevents hjournal hcount) (fun n => by rw [hports])
    (by rw [hslot]) (by rw [hslot]) ?_ (by rw [hreplies]) hrestarting hdue
  rw [hreplies]
  exact h.busy

theorem State.keepsRaised_setLane (s : State) (n : Lane) {lu : LaneUnit} (h : (s.lanes.get n).KeepsRaised lu)
    (m : Lane) :
    (s.lanes.get m).KeepsRaised ((s.setLane n lu).lanes.get m) := by
  rw [State.setLane_lanes, get_set]
  split
  · rename_i hm
    rw [← hm]
    exact h
  · exact .refl _

theorem State.keepsRaised_mapLanes (s : State) {f : LaneUnit → LaneUnit} (h : ∀ lu : LaneUnit, lu.KeepsRaised (f lu))
    (m : Lane) :
    (s.lanes.get m).KeepsRaised ((s.mapLanes f).lanes.get m) := by
  rw [State.mapLanes, get_map]
  exact h _

theorem State.keepsRaised_takeLaneCommand (s : State) (c : LaneCommand) (m : Lane) :
    (s.lanes.get m).KeepsRaised ((s.takeLaneCommand c).lanes.get m) := by
  cases c with
  | arm n d => exact s.keepsRaised_setLane n ((s.lanes.get n).takeArm_keepsRaised d) m
  | withdraw n => exact s.keepsRaised_setLane n (s.lanes.get n).takeWithdraw_keepsRaised m

theorem State.keepsRaised_settleCommands (s : State) (m : Lane) :
    (s.lanes.get m).KeepsRaised (s.settleCommands.lanes.get m) := by
  have hfold (l : List LaneCommand) (u : State) :
      (u.lanes.get m).KeepsRaised ((l.foldl State.takeLaneCommand u).lanes.get m) := by
    induction l generalizing u with
    | nil => exact .refl _
    | cons c l ih => exact (u.keepsRaised_takeLaneCommand c m).trans (ih _)
  exact hfold s.commands { s with commands := [] }

theorem eventsAfter_ne_nil {l : List GateEvent} {e : GateEvent} (h : l ≠ []) : eventsAfter l e ≠ [] := by
  unfold eventsAfter
  split
  · exact List.append_ne_nil_of_left_ne_nil h _
  · exact h

/-- A service of the Decision Engine that is neither a lane's nor the uplink's request is over. -/
theorem State.Serves.over (h : s.Serves) {item : Service} (hserving : s.serving = some item)
    (hlane : ∀ n, item ≠ .laneRequest n) (huplink : item ≠ .uplinkRequest) (hchosen : t.chosen = none)
    (hports : t.ports = s.ports) (hlink : t.uplink = s.uplink) (hrestarting : t.restarting = s.restarting)
    (hdue : t.warmResetDue = s.warmResetDue) : t.Serves := by
  obtain ⟨-, hrunning, hitem⟩ := (s.serving_eq_some item).mp hserving
  have hin : s.uplink.slot.isInService = false :=
    Bool.eq_false_iff.mpr fun hin => huplink (Option.some_inj.mp (hitem.symm.trans (h.uplink.mp hin)))
  refine ⟨fun i hi => ?_, fun n => ?_, ?_, ?_, ?_, fun hr => ?_, ?_⟩
  · rw [hchosen] at hi
    cases hi
  · rw [hports, hchosen, h.none_inService (fun m hm => hlane m (Option.some_inj.mp (hitem.symm.trans hm)))]
    exact iff_of_false Bool.false_ne_true (Option.some_ne_none _).symm
  · rw [hlink, hchosen, hin]
    exact iff_of_false Bool.false_ne_true (Option.some_ne_none _).symm
  · rw [hlink]
    exact h.busy
  · rw [hlink]
    exact h.answered
  · rw [hrestarting, hrunning] at hr
    cases hr
  · rw [hdue, hrestarting]
    exact h.due

/-- The uplink request in service is answered (R199, R200). -/
theorem State.Serves.finishUplink (h : s.Serves) {r : UplinkRequest} {a : Answer}
    (hserving : s.serving = some .uplinkRequest) (hslot : s.uplink.slot = .inService r)
    (hports : t.ports = s.ports) (hlink : t.uplink = s.uplink) (hdue : t.warmResetDue = s.warmResetDue)
    (hstatus : a.status ≠ .busy) : (t.finishUplink r a).Serves := by
  obtain ⟨-, hrunning, hitem⟩ := (s.serving_eq_some _).mp hserving
  have hnone := h.answered
  rw [hslot] at hnone
  have hreplies : (t.finishUplink r a).uplink.replies = s.uplink.replies ++ [⟨r.type, a.status, a.payload⟩] := by
    rw [State.finishUplink_uplink, hlink]
  refine ⟨(fun i hi => nomatch hi), fun n => ?_, ?_, ?_, ?_, fun _ => ⟨rfl, .inl rfl⟩, fun hdue' => ?_⟩
  · rw [State.finishUplink_ports, hports, h.none_inService fun m hm => by rw [hitem] at hm; cases hm]
    exact iff_of_false Bool.false_ne_true (Option.some_ne_none _).symm
  · exact iff_of_false Bool.false_ne_true (Option.some_ne_none _).symm
  · rw [hreplies, List.filter_append]
    simpa [hstatus] using h.busy
  · rw [hreplies, List.filter_append, List.length_append, hnone]
    simp [hstatus, State.finishUplink, UplinkSlot.isReplying, bitValue]
  · rw [State.finishUplink_warmResetDue, hdue] at hdue'
    rw [h.due hdue'] at hrunning
    cases hrunning

theorem State.UplinkWork.link (hwork : s.UplinkWork t) :
    t.ports = s.ports ∧ t.uplink = s.uplink ∧ t.warmResetDue = s.warmResetDue := by
  cases hwork with
  | double slot r source time zone =>
    rw [s.report_frame slot r .double source time zone _ rfl]
    exact ⟨rfl, rfl, rfl⟩
  | doubleHeld slot r x zs source time zone =>
    rw [State.report_frame { s with zones := zs } slot r .double source time zone _ rfl]
    exact ⟨rfl, rfl, rfl⟩
  | _ => exact ⟨rfl, rfl, rfl⟩

theorem State.LaneWork.link {n : Lane} (hwork : s.LaneWork n t) :
    t.uplink = s.uplink ∧ t.warmResetDue = s.warmResetDue ∧ t.restarting = s.restarting := by
  cases hwork with
  | cancel slot r x u _ _ hends =>
    rw [hends.frame]
    exact ⟨rfl, rfl, rfl⟩
  | grant cred slot r =>
    obtain ⟨zs, -, heq⟩ := s.grantHold_frame n cred slot r
    rw [heq]
    exact ⟨rfl, rfl, rfl⟩
  | _ => exact ⟨rfl, rfl, rfl⟩

/-- A lane's request in service is answered (R188, R191). -/
theorem State.Serves.finishLaneRequest (h : s.Serves) {n : Lane} (hserving : s.serving = some (.laneRequest n))
    (hwork : s.LaneWork n t) (reply : LaneReply) : (t.finishLaneRequest n reply).Serves := by
  obtain ⟨-, hrunning, hitem⟩ := (s.serving_eq_some _).mp hserving
  obtain ⟨hlink, hdue, hrestarting⟩ := hwork.link
  have hin : s.uplink.slot.isInService = false := Bool.eq_false_iff.mpr fun hin => by
    have hother := hitem.symm.trans (h.uplink.mp hin)
    cases hother
  refine ⟨(fun i hi => nomatch hi), fun m => ?_, ?_, ?_, ?_, fun hr => ?_, fun hd => ?_⟩
  · refine iff_of_false ?_ (Option.some_ne_none _).symm
    rw [State.finishLaneRequest_ports, get_set, hwork.ports]
    split
    · exact Bool.false_ne_true
    · rename_i hm
      rw [h.lanes m, hitem]
      simpa using hm
  · rw [State.finishLaneRequest_uplink, hlink, hin]
    exact iff_of_false Bool.false_ne_true (Option.some_ne_none _).symm
  · rw [State.finishLaneRequest_uplink, hlink]
    exact h.busy
  · rw [State.finishLaneRequest_uplink, hlink]
    exact h.answered
  · rw [State.finishLaneRequest_restarting, hrestarting, hrunning] at hr
    cases hr
  · rw [State.finishLaneRequest_warmResetDue, hdue] at hd
    rw [h.due hd] at hrunning
    cases hrunning

theorem State.Serves.setPort (h : s.Serves) (n : Lane) {p : Port}
    (hp : p.request.isInService = (s.ports.get n).request.isInService) : (s.setPort n p).Serves := by
  refine h.keep rfl (fun item ho => ?_) (fun m => ?_) rfl rfl h.busy rfl rfl rfl
  · exact ho.run (fun _ => .refl _) id rfl rfl
  · rw [State.setPort_ports, get_set]
    split
    · rename_i hm
      rw [← hm]
      exact hp
    · rfl

/-- The chosen item moves from WAITING to IN_SERVICE (R60, R188, R199). -/
theorem State.Serves.choose (h : s.Serves) {item : Service} (hmay : s.mayChoose = true)
    (hnext : s.nextService = some item) : (s.choose item).Serves := by
  have hwaits := State.waits_of_nextService hnext
  simp only [State.mayChoose, Bool.and_eq_true, Bool.not_eq_true', Option.isNone_iff_eq_none] at hmay
  obtain ⟨⟨-, hrunning⟩, hnone⟩ := hmay
  have hports : ∀ n : Lane, (s.ports.get n).request.isInService = false :=
    h.none_inService fun n hn => by rw [hnone] at hn; cases hn
  have hin : s.uplink.slot.isInService = false := Bool.eq_false_iff.mpr fun hin => by
    have hother := hnone.symm.trans (h.uplink.mp hin)
    cases hother
  have hstopped {p : Prop} (hr : s.restarting = true) : p := by
    rw [hrunning] at hr
    cases hr
  have plain (hoffers : s.Offers item) (hlane : ∀ n, item ≠ .laneRequest n) (huplink : item ≠ .uplinkRequest) :
      State.Serves { s with chosen := some item } := by
    refine ⟨fun i hi => ?_, fun n => ?_, ?_, h.busy, h.answered, fun hr => hstopped hr, h.due⟩
    · cases hi
      exact hoffers
    · rw [hports n]
      exact iff_of_false Bool.false_ne_true fun hi => hlane n (Option.some_inj.mp hi)
    · rw [hin]
      exact iff_of_false Bool.false_ne_true fun hi => huplink (Option.some_inj.mp hi)
  cases item with
  | laneRequest n =>
    have hwaits : (s.ports.get n).request.isWaiting = true := hwaits
    refine ⟨fun i hi => ?_, fun m => ?_, ?_, h.busy, h.answered, fun hr => hstopped hr, h.due⟩
    · cases hi
      exact trivial
    · have hchosen : (s.choose (.laneRequest n)).chosen = some (.laneRequest n) := rfl
      have hset : (s.choose (.laneRequest n)).ports =
          s.ports.set n { s.ports.get n with request := (s.ports.get n).request.takeUp } := rfl
      rw [hchosen, hset, get_set]
      split
      · rename_i hm
        subst hm
        refine iff_of_true ?_ rfl
        cases hr : (s.ports.get n).request <;> simp_all [RequestSlot.isWaiting, RequestSlot.takeUp,
          RequestSlot.isInService]
      · rename_i hm
        rw [hports m]
        simpa using hm
    · have hslot : (s.choose (.laneRequest n)).uplink = s.uplink := rfl
      rw [hslot, hin]
      exact iff_of_false Bool.false_ne_true fun hi => nomatch hi
  | uplinkRequest =>
    have hwaits : s.uplink.slot.isWaiting = true := hwaits
    cases hslot : s.uplink.slot with
    | waiting r =>
      have hanswered := h.answered
      have htaken : (s.choose .uplinkRequest).uplink.slot = .inService r := by
        simp only [State.choose, hslot, UplinkSlot.takeUp]
      rw [hslot] at hanswered
      refine ⟨fun i hi => ?_, fun m => ?_, ?_, h.busy, ?_, fun hr => hstopped hr, h.due⟩
      · cases hi
        exact trivial
      · have hsame : (s.choose .uplinkRequest).ports = s.ports := rfl
        rw [hsame, hports m]
        exact iff_of_false Bool.false_ne_true fun hi => nomatch hi
      · rw [htaken]
        exact iff_of_true rfl rfl
      · rw [htaken]
        exact hanswered
    | _ =>
      rw [hslot] at hwaits
      cases hwaits
  | completion n => exact plain hwaits (fun _ => Service.noConfusion) Service.noConfusion
  | forcedReport n => exact plain hwaits (fun _ => Service.noConfusion) Service.noConfusion
  | gateEvent => exact plain hwaits (fun _ => Service.noConfusion) Service.noConfusion
  | backfill => exact plain hwaits (fun _ => Service.noConfusion) Service.noConfusion

theorem State.Serves.warmReset (s : State) (pins : WarmPins) : (s.warmReset pins).Serves := by
  rw [State.warmReset_eq]
  generalize s.endAllHolds = u
  refine ⟨(fun i hi => nomatch hi), fun n => ?_, ?_, Nat.zero_le _, rfl, (fun hr => nomatch hr), (fun hd => nomatch hd)⟩
  · have hport : (u.clearAtReset pins).ports.get n = (u.ports.get n).warmReset := get_map _ _ n
    rw [hport]
    exact iff_of_false Bool.false_ne_true fun hi => nomatch hi
  · exact iff_of_false Bool.false_ne_true fun hi => nomatch hi

/-- The head reply leaves the buffer; when it is the slot's, the slot empties (R199, R201, R205). -/
theorem State.Serves.replySent (h : s.Serves) {r : UplinkReply} {rest : List UplinkReply}
    (hreplies : s.uplink.replies = r :: rest) (hbusy : r.status ≠ .busy) :
    State.Serves
      { s with uplink := { s.uplink with replies := rest, slot := .empty }, warmResetDue := s.restarting } := by
  have hanswered := h.answered
  rw [hreplies, List.filter_cons_of_pos (p := fun q : UplinkReply => decide (q.status ≠ .busy)) (decide_eq_true hbusy),
    List.length_cons] at hanswered
  have hreplying : s.uplink.slot.isReplying = true := by
    by_contra hnot
    rw [Bool.eq_false_iff.mpr hnot] at hanswered
    cases hanswered
  rw [hreplying] at hanswered
  have hchosen : s.chosen ≠ some .uplinkRequest := fun hitem => by
    have hin := h.uplink.mpr hitem
    cases hslot : s.uplink.slot <;> rw [hslot] at hin hreplying
    case inService => cases hreplying
    all_goals cases hin
  refine ⟨fun i hi => (h.offers i hi).run (fun _ => .refl _) id rfl rfl, h.lanes,
    iff_of_false Bool.false_ne_true hchosen, ?_, Nat.succ.inj hanswered, fun hr => ⟨(h.restarting hr).1, .inr hr⟩, id⟩
  have hall := h.busy
  rw [hreplies, List.filter_cons_of_neg (p := fun q : UplinkReply => decide (q.status = .busy))
    (by simpa using hbusy)] at hall
  exact hall

/-- Every effect keeps the services and the reply buffer. -/
theorem State.Effect.serves (he : s.Effect t) (h : s.Serves) (hfit : s.LanesFit) : t.Serves := by
  cases he with
  | countTick =>
    have hevents : s.gc.tickMonitor.events = s.gc.events := by rw [s.gc.tickMonitor_frame]
    exact h.run (s.keepsRaised_mapLanes fun lu => ⟨id, id⟩) (fun hsome => (hevents.trans_ne hsome)) rfl rfl rfl rfl rfl
      rfl rfl rfl
  | expiry n =>
    exact h.run (s.keepsRaised_setLane n (LaneUnit.takeExpiry_keepsRaised _)) id rfl rfl rfl rfl rfl rfl rfl rfl
  | loseLink => exact h.run (fun _ => .refl _) eventsAfter_ne_nil rfl rfl rfl rfl rfl rfl rfl rfl
  | assertEvac =>
    exact h.run (s.keepsRaised_mapLanes LaneUnit.takeFree_keepsRaised) eventsAfter_ne_nil rfl rfl rfl rfl rfl rfl
      rfl rfl
  | releaseEvac =>
    exact h.run (s.keepsRaised_mapLanes LaneUnit.takeUnfree_keepsRaised) eventsAfter_ne_nil rfl rfl rfl rfl rfl rfl
      rfl rfl
  | encoder n pair =>
    exact h.run (s.keepsRaised_setLane n ((hfit n).safe.takePair_keepsRaised pair _ _)) id rfl rfl rfl rfl rfl rfl
      rfl rfl
  | command c rest =>
    rw [State.takeLaneCommand_frame]
    exact h.run (State.keepsRaised_takeLaneCommand { s with commands := rest } c) id rfl rfl rfl rfl rfl rfl rfl rfl
  | settleCommands =>
    rw [State.settleCommands_frame]
    exact h.run s.keepsRaised_settleCommands id rfl rfl rfl rfl rfl rfl rfl rfl
  | choose item hmay _ hnext => exact h.choose hmay hnext
  | hear rx r =>
    obtain ⟨hin, hreplying, hbusy, hanswered⟩ :=
      UplinkPort.takeRequest_keeps { s.uplink with receiver := rx } r h.busy
    have hevents : s.gc.events ≠ [] → s.gc.hearFrame.events ≠ [] := by
      intro hsome
      rw [GateController.hearFrame_eq]
      dsimp only
      split
      · exact eventsAfter_ne_nil hsome
      · exact hsome
    exact h.keep rfl (fun item ho => ho.run (fun _ => .refl _) hevents rfl rfl) (fun _ => rfl) hin hreplying hbusy
      hanswered rfl rfl
  | busySent r rest hreplies hbusy =>
    have hall := h.busy
    rw [hreplies, List.filter_cons_of_pos (p := fun q : UplinkReply => decide (q.status = .busy))
      (decide_eq_true hbusy), List.length_cons] at hall
    have hanswered : rest.filter (fun q => q.status ≠ .busy) = s.uplink.replies.filter fun q => q.status ≠ .busy := by
      rw [hreplies, List.filter_cons_of_neg (p := fun q : UplinkReply => decide (q.status ≠ .busy))
        (by simpa using hbusy)]
    exact h.keep rfl (fun item ho => ho.run (fun _ => .refl _) id rfl rfl) (fun _ => rfl) rfl rfl
      ((Nat.le_succ _).trans hall) hanswered rfl rfl
  | replySent r rest _ hreplies hbusy => exact h.replySent hreplies hbusy
  | transferBegin n => exact h.setPort n (congrArg _ (Port.beginTransfer_request _ _))
  | transferEnd n bits => exact h.setPort n (Port.endTransfer_inService _ _ bits)
  | holdReset => exact h.run (s.keepsRaised_mapLanes fun lu => ⟨id, id⟩) id rfl rfl rfl rfl rfl rfl rfl rfl
  | pinHeld level => exact h.run (s.keepsRaised_mapLanes fun lu => ⟨id, id⟩) id rfl rfl rfl rfl rfl rfl rfl rfl
  | warmReset pins => exact .warmReset s pins
  | endHold n slot r x howEnded u hserving _ _ hends =>
    rw [hends.frame]
    exact h.over hserving (fun _ => Service.noConfusion) Service.noConfusion rfl rfl rfl rfl rfl
  | endLaneHold n hserving =>
    exact h.over hserving (fun _ => Service.noConfusion) Service.noConfusion rfl rfl rfl rfl rfl
  | forcedReport n hserving =>
    rw [State.reportRecordless_frame]
    exact h.over hserving (fun _ => Service.noConfusion) Service.noConfusion rfl rfl rfl rfl rfl
  | gateEvent e rest hserving =>
    rw [State.reportRecordless_frame]
    exact h.over hserving (fun _ => Service.noConfusion) Service.noConfusion rfl rfl rfl rfl rfl
  | backfill slot r hserving =>
    exact h.over hserving (fun _ => Service.noConfusion) Service.noConfusion rfl rfl rfl rfl rfl
  | noBackfill hserving => exact h.over hserving (fun _ => Service.noConfusion) Service.noConfusion rfl rfl rfl rfl rfl
  | lane n q u reply hserving _ hwork => exact h.finishLaneRequest hserving hwork reply
  | uplink _ ht =>
    obtain ⟨r, u, a, hserving, hslot, hwork, hstatus⟩ := ht
    obtain ⟨hports, hlink, hdue⟩ := hwork.link
    exact h.finishUplink hserving hslot hports hlink hdue hstatus
  | _ => exact h.run (fun _ => .refl _) id rfl rfl rfl rfl rfl rfl rfl rfl

end

end Sys2Proof.Machine
end

section
/-! The bond of held records, lane contexts, lane units and commands in flight over every effect (R25, R69, R90,
R91). -/

namespace Sys2Proof.Machine

/-! ### Who holds which record -/

/-- The ticket, the holding lane and the direction of a HELD record. -/
def Record.holder? (r : Record) : Option (Ticket × Lane × Side) := r.hold?.map fun h => (r.ticket, h.lane, h.direction)

/-- The ticket, the holding lane and the direction of the HELD record in a slot. -/
def Table.holder? (t : Table) (k : Nat) : Option (Ticket × Lane × Side) := (t.get? k).bind Record.holder?

theorem Record.holder?_of_held {r : Record} {h : Hold} (hstate : r.state = .held h) :
    r.holder? = some (r.ticket, h.lane, h.direction) := by
  rw [Record.holder?, (r.hold?_eq_some h).mpr hstate]
  rfl

theorem Record.holder?_of_unheld {r : Record} (h : r.hold? = none) : r.holder? = none := by
  rw [Record.holder?, h]
  rfl

theorem Record.Noted.holder? {r q : Record} (hn : r.Noted q) : q.holder? = r.holder? := by
  obtain ⟨hticket, -⟩ := hn.frame
  obtain ⟨hr, hq⟩ | ⟨h, h', hr, hq, hlane, hdirection, -⟩ := hn.hold_cases
  · rw [Record.holder?_of_unheld hr, Record.holder?_of_unheld hq]
  · rw [Record.holder?_of_held hr, Record.holder?_of_held hq, hticket, hlane, hdirection]

theorem Table.holder?_set {t : Table} {k : Nat} {r : Record} (hr : t.get? k = some r) (q : Record) (j : Nat) :
    (t.set k q).holder? j = if j = k then q.holder? else t.holder? j := by
  rw [Table.holder?, Table.get?_set]
  by_cases hj : j = k
  · rw [if_pos hj.symm, if_pos hj, hr]
    rfl
  · rw [if_neg (Ne.symm hj), if_neg hj]
    rfl

theorem Table.holder?_of_get? {t : Table} {k : Nat} {r : Record} (hr : t.get? k = some r) :
    t.holder? k = r.holder? := by
  rw [Table.holder?, hr]
  rfl

/-- Writing a record with the holder it had leaves every holder. -/
theorem Table.holder?_set_alike {t : Table} {k : Nat} {r q : Record} (hr : t.get? k = some r)
    (hq : q.holder? = r.holder?) (j : Nat) : (t.set k q).holder? j = t.holder? j := by
  rw [Table.holder?_set hr]
  split
  · rename_i hj
    rw [hq, hj, Table.holder?_of_get? hr]
  · rfl

theorem State.report_holder? (s : State) (slot : Nat) (r : Record) (kind : Kind) (source : Source) (time : VenueTime)
    (zone : ZoneNo) (k : Nat) : (s.report slot r kind source time zone).table.holder? k = s.table.holder? k := by
  obtain ⟨-, heq⟩ | ⟨-, heq⟩ := s.report_cases slot r kind source time zone <;> rw [heq]
  · rfl
  · obtain ⟨q, hq, -, heq⟩ | ⟨-, heq⟩ := s.flagPending_cases slot <;> rw [heq]
    exact Table.holder?_set_alike (q := { q with pendingReport := true }) hq rfl k

/-- The end of a hold frees its slot's record and no other (R96). -/
theorem State.HoldEnds.holder? {s u : State} {slot : Nat} {r : Record} {h : Hold} (hends : s.HoldEnds slot r h u)
    (hr : s.table.get? slot = some r) (k : Nat) :
    u.table.holder? k = if k = slot then none else s.table.holder? k := by
  have hwritten {q : Record} {zs : Vector ZoneRecord 16} (hq : r.Ended h q) :
      (s.rewrite slot q zs).table.holder? k = if k = slot then none else s.table.holder? k := by
    rw [State.rewrite, Table.holder?_set hr, Record.holder?_of_unheld hq.unheld]
  cases hends with
  | silent q zs hq _ => exact hwritten hq
  | reported q zs kind source time zone hq _ _ => rw [State.report_holder?, hwritten hq]

/-! ### The bond by holders -/

/-- The conditions of the invariant on holds, lane contexts and commands in flight, said of the holders. -/
structure State.Bonded (s : State) : Prop where
  named : ∀ n ref, (s.contexts.get n).holdRef = some ref → ∃ d, s.table.holder? ref.slot = some (ref.ticket, n, d)
  held : ∀ k x n d, s.table.holder? k = some (x, n, d) → (s.contexts.get n).holdRef = some ⟨x, k⟩
  lanes : ∀ n, s.LaneBond n
  commands : s.CommandsOk

section
variable {s t : State}

theorem State.heldDirection_eq (s : State) (n : Lane) :
    s.heldDirection n = (s.contexts.get n).holdRef.bind fun ref => (s.table.holder? ref.slot).map fun x => x.2.2 := by
  rw [State.heldDirection, State.heldAt]
  cases (s.contexts.get n).holdRef with
  | none => rfl
  | some ref =>
    rw [Option.bind_some, Table.holder?]
    dsimp only
    cases s.table.get? ref.slot with
    | none => rfl
    | some r =>
      rw [Option.bind_some, Record.holder?]
      dsimp only
      cases r.hold? <;> rfl

theorem Table.holder?_eq_some {t : Table} {k : Nat} {x : Ticket} {n : Lane} {d : Side} :
    t.holder? k = some (x, n, d) ↔
      ∃ r h, t.get? k = some r ∧ r.state = .held h ∧ r.ticket = x ∧ h.lane = n ∧ h.direction = d := by
  simp only [Table.holder?, Record.holder?, Option.bind_eq_some_iff, Option.map_eq_some_iff, Record.hold?_eq_some,
    Prod.mk.injEq]
  constructor
  · rintro ⟨r, hr, h, hstate, hx, hn, hd⟩
    exact ⟨r, h, hr, hstate, hx, hn, hd⟩
  · rintro ⟨r, h, hr, hstate, hx, hn, hd⟩
    exact ⟨r, hr, h, hstate, hx, hn, hd⟩

theorem State.bonded_iff (hwf : s.table.wf = true) :
    s.Bonded ↔ s.BondOk ∧ (∀ n, s.LaneBond n) ∧ s.CommandsOk := by
  constructor
  · rintro ⟨hnamed, hheld, hlanes, hcommands⟩
    refine ⟨⟨fun n ref href => ?_, fun e he h hh => ?_⟩, hlanes, hcommands⟩
    · obtain ⟨d, hholder⟩ := hnamed n ref href
      obtain ⟨r, h, hr, hstate, hticket, hlane, -⟩ := Table.holder?_eq_some.mp hholder
      exact ⟨(ref.slot, r, h), (s.heldAt_eq_some n _ _ _).mpr ⟨ref, href, rfl, hr, hstate⟩, rfl, hticket, hlane⟩
    · have hr := (Table.get?_iff_mem hwf).mpr he
      have hstate := (e.2.hold?_eq_some h).mp hh
      exact hheld _ _ _ _ (Table.holder?_eq_some.mpr ⟨e.2, h, hr, hstate, rfl, rfl, rfl⟩)
  · rintro ⟨⟨hnamed, hheld⟩, hlanes, hcommands⟩
    refine ⟨fun n ref href => ?_, fun k x n d hholder => ?_, hlanes, hcommands⟩
    · obtain ⟨⟨slot, r, h⟩, hat, hslot, hticket, hlane⟩ := hnamed n ref href
      obtain ⟨hr, hstate⟩ := State.heldAt_mem hat
      have hslot : slot = ref.slot := hslot
      rw [hslot] at hr
      exact ⟨h.direction, Table.holder?_eq_some.mpr ⟨r, h, hr, hstate, hticket, hlane, rfl⟩⟩
    · obtain ⟨r, h, hr, hstate, rfl, rfl, -⟩ := Table.holder?_eq_some.mp hholder
      exact hheld (k, r) (Table.get?_mem hr) h ((r.hold?_eq_some h).mpr hstate)

theorem State.Inv.bonded (h : s.Inv) : s.Bonded :=
  (State.bonded_iff h.table.1).mpr ⟨h.bond, fun n => (h.lanes n).2, h.commands⟩

/-! ### What keeps the bond -/

/-- The commands in flight, the hold references, the holders and the lane units' halves are as they were; a role may
change at a lane without a hold. -/
theorem State.Bonded.quiet (h : s.Bonded) (hholders : ∀ k, t.table.holder? k = s.table.holder? k)
    (hrefs : ∀ n, (t.contexts.get n).holdRef = (s.contexts.get n).holdRef)
    (hroles : ∀ n, (s.contexts.get n).holdRef ≠ none → (t.lanes.get n).role = (s.lanes.get n).role)
    (hholds : ∀ n, (t.lanes.get n).hold = (s.lanes.get n).hold) (hcommands : t.commands = s.commands)
    (hchosen : t.chosen ≠ none → t.commands = []) : t.Bonded := by
  have hdirection (n : Lane) : t.heldDirection n = s.heldDirection n := by
    simp only [State.heldDirection_eq, hrefs, hholders]
  have hflight (n : Lane) : t.armInFlight n = s.armInFlight n := by rw [State.armInFlight, hcommands, State.armInFlight]
  obtain ⟨hlength, -, hfit⟩ := h.commands
  refine ⟨fun n ref href => ?_, fun k x n d hholder => ?_, fun n => ?_, ?_, hchosen, ?_⟩
  · rw [hholders]
    exact h.named n ref (hrefs n ▸ href)
  · rw [hrefs]
    rw [hholders] at hholder
    exact h.held k x n d hholder
  · obtain ⟨hhold, harm, hnamed⟩ := h.lanes n
    unfold State.LaneBond
    rw [hholds, hdirection, hflight, hrefs]
    refine ⟨hhold, harm, fun href => ?_⟩
    rw [hroles n href]
    exact hnamed href
  · rw [hcommands]
    exact hlength
  · rw [hcommands]
    intro c hc
    have hc := hfit c hc
    cases c with
    | arm n d => exact (hdirection n).trans hc
    | withdraw n => exact fun hnone => hc ((hholds n).symm.trans hnone)

/-- Nothing of the bond changes, at a state whose chosen item is as it was or gone. -/
theorem State.Bonded.of_eq (h : s.Bonded) (htable : t.table = s.table) (hcontexts : t.contexts = s.contexts)
    (hlanes : ∀ n, (t.lanes.get n).role = (s.lanes.get n).role ∧ (t.lanes.get n).hold = (s.lanes.get n).hold)
    (hcommands : t.commands = s.commands) (hchosen : t.chosen = s.chosen ∨ t.chosen = none) : t.Bonded := by
  obtain ⟨-, hempty, -⟩ := h.commands
  refine h.quiet (fun k => by rw [htable]) (fun n => by rw [hcontexts]) (fun n _ => (hlanes n).1)
    (fun n => (hlanes n).2) hcommands fun hsome => ?_
  rw [hcommands]
  obtain heq | heq := hchosen
  · exact hempty (heq ▸ hsome)
  · exact absurd heq hsome

/-- No command is in flight while an item is chosen (R91). -/
theorem State.Bonded.no_command (h : s.Bonded) {item : Service} (hserving : s.serving = some item) :
    s.commands = [] := by
  obtain ⟨-, -, hitem⟩ := (s.serving_eq_some item).mp hserving
  obtain ⟨-, hempty, -⟩ := h.commands
  exact hempty (by rw [hitem]; exact Option.some_ne_none item)

theorem State.armInFlight_of_nil (h : s.commands = []) (n : Lane) : s.armInFlight n = false := by
  rw [State.armInFlight, h]
  rfl

/-- Without a command in flight, a lane unit has its hold exactly while its context names a record (R90). -/
theorem State.Bonded.hold_ne_none (h : s.Bonded) (hnil : s.commands = []) {n : Lane}
    (href : (s.contexts.get n).holdRef ≠ none) : (s.lanes.get n).hold ≠ none := by
  obtain ⟨-, -, hnamed⟩ := h.lanes n
  obtain ⟨-, hhold | hflight⟩ := hnamed href
  · exact hhold
  · rw [State.armInFlight_of_nil hnil] at hflight
    cases hflight

/-- A lane whose context names no record has no hold (R90). -/
theorem State.Bonded.hold_eq_none (h : s.Bonded) {n : Lane} (href : (s.contexts.get n).holdRef = none) :
    (s.lanes.get n).hold = none := by
  obtain ⟨hhold, -, -⟩ := h.lanes n
  by_contra hsome
  have hdirection := hhold hsome
  rw [State.heldDirection_eq, href] at hdirection
  exact hsome hdirection

/-- A lane without a hold, a name and a command is bound to nothing. -/
theorem State.laneBond_of_none {n : Lane} (hhold : (t.lanes.get n).hold = none)
    (href : (t.contexts.get n).holdRef = none) (hflight : t.armInFlight n = false) : t.LaneBond n := by
  refine ⟨fun hsome => absurd hhold hsome, fun harm => ?_, fun hsome => absurd href hsome⟩
  rw [hflight] at harm
  cases harm

/-- The bond at a lane whose own parts are as they were, with no command in flight before and none for it now. -/
theorem State.Bonded.laneBond_alike (h : s.Bonded) {n : Lane} (hnil : s.armInFlight n = false)
    (href : (t.contexts.get n).holdRef = (s.contexts.get n).holdRef)
    (hholders : ∀ ref, (s.contexts.get n).holdRef = some ref → t.table.holder? ref.slot = s.table.holder? ref.slot)
    (hrole : (t.lanes.get n).role = (s.lanes.get n).role) (hhold : (t.lanes.get n).hold = (s.lanes.get n).hold)
    (hflight : t.armInFlight n = false) : t.LaneBond n := by
  have hdirection : t.heldDirection n = s.heldDirection n := by
    rw [State.heldDirection_eq, State.heldDirection_eq, href]
    cases hr : (s.contexts.get n).holdRef with
    | none => rfl
    | some ref => rw [Option.bind_some, Option.bind_some, hholders ref hr]
  have hbond := h.lanes n
  unfold State.LaneBond at hbond ⊢
  rw [hnil] at hbond
  rw [href, hrole, hhold, hdirection, hflight]
  exact hbond

theorem State.commandsOk_of_nil (h : t.commands = []) : t.CommandsOk := by
  unfold State.CommandsOk
  rw [h]
  exact ⟨Nat.zero_le _, fun _ => rfl, fun c hc => nomatch hc⟩

/-- The end of the hold of lane `n`, in the table, the context and the lane unit (R96). -/
theorem State.Bonded.release (h : s.Bonded) (hnil : s.commands = []) {n : Lane} {slot : Nat} {r : Record} {x : Hold}
    (hat : s.heldAt n = some (slot, r, x))
    (hholders : ∀ k, t.table.holder? k = if k = slot then none else s.table.holder? k)
    (hrefs : ∀ m, (t.contexts.get m).holdRef = if n = m then none else (s.contexts.get m).holdRef)
    (hhold : (t.lanes.get n).hold = none)
    (hlanes : ∀ m, n ≠ m → t.lanes.get m = s.lanes.get m) (hcommands : t.commands = []) : t.Bonded := by
  obtain ⟨ref₀, href₀, hslot₀, -⟩ := (s.heldAt_eq_some n slot r x).mp hat
  obtain ⟨d₀, hholder₀⟩ := h.named n ref₀ href₀
  have hother {m : Lane} (hm : n ≠ m) {ref : HoldRef} (href : (s.contexts.get m).holdRef = some ref) :
      ref.slot ≠ slot := by
    rintro hsame
    obtain ⟨d, hholder⟩ := h.named m ref href
    rw [hsame, ← hslot₀, hholder₀] at hholder
    simp only [Option.some.injEq, Prod.mk.injEq] at hholder
    obtain ⟨-, hlane, -⟩ := hholder
    exact hm hlane
  refine ⟨fun m ref href => ?_, fun k y m d hholder => ?_, fun m => ?_, State.commandsOk_of_nil hcommands⟩
  · rw [hrefs] at href
    split at href
    · cases href
    · rename_i hm
      rw [hholders, if_neg (hother hm href)]
      exact h.named m ref href
  · rw [hholders] at hholder
    split at hholder
    · cases hholder
    · rename_i hk
      have href := h.held k y m d hholder
      rw [hrefs, if_neg]
      · exact href
      · rintro rfl
        rw [href₀] at href
        cases href
        exact hk hslot₀
  · by_cases hm : n = m
    · subst hm
      exact State.laneBond_of_none hhold (by rw [hrefs, if_pos rfl]) (State.armInFlight_of_nil hcommands n)
    · refine h.laneBond_alike (State.armInFlight_of_nil hnil m) ?_ (fun ref href => ?_) ?_ ?_
        (State.armInFlight_of_nil hcommands m)
      · rw [hrefs, if_neg hm]
      · rw [hholders, if_neg (hother hm href)]
      · rw [hlanes m hm]
      · rw [hlanes m hm]

/-- A grant: the context of lane `n` names the record it holds, and the arm command is sent (R82, R91). -/
theorem State.Bonded.grant (h : s.Bonded) (hnil : s.commands = []) {n : Lane} {slot : Nat} {x : Ticket} {d : Side}
    (href : (s.contexts.get n).holdRef = none) (hrole : (s.lanes.get n).role ≠ .off)
    (hfree : s.table.holder? slot = none)
    (hholders : ∀ k, t.table.holder? k = if k = slot then some (x, n, d) else s.table.holder? k)
    (hrefs : ∀ m, (t.contexts.get m).holdRef = if n = m then some ⟨x, slot⟩ else (s.contexts.get m).holdRef)
    (hlanes : t.lanes = s.lanes) (hcommands : t.commands = [.arm n d]) (hchosen : t.chosen = none) : t.Bonded := by
  have hother {m : Lane} {ref : HoldRef} (href : (s.contexts.get m).holdRef = some ref) : ref.slot ≠ slot := by
    rintro hsame
    obtain ⟨d', hholder⟩ := h.named m ref href
    rw [hsame, hfree] at hholder
    cases hholder
  have hdirection : t.heldDirection n = some d := by
    rw [State.heldDirection_eq, hrefs, if_pos rfl, Option.bind_some, hholders, if_pos rfl]
    rfl
  refine ⟨fun m ref hm => ?_, fun k y m d' hholder => ?_, fun m => ?_, ?_, fun hsome => absurd hchosen hsome, ?_⟩
  · rw [hrefs] at hm
    split at hm
    · rename_i hn
      cases hm
      exact ⟨d, by rw [hholders, if_pos rfl, hn]⟩
    · rw [hholders, if_neg (hother hm)]
      exact h.named m ref hm
  · rw [hholders] at hholder
    split at hholder
    · rename_i hk
      cases hholder
      rw [hrefs, if_pos rfl, hk]
    · have hm := h.held k y m d' hholder
      rw [hrefs, if_neg]
      · exact hm
      · rintro rfl
        rw [href] at hm
        cases hm
  · by_cases hm : n = m
    · subst hm
      have hhold := h.hold_eq_none href
      have hflight : t.armInFlight n = true := by
        rw [State.armInFlight, hcommands]
        cases d <;> simp
      rw [State.LaneBond, hlanes, hrefs, if_pos rfl]
      exact ⟨fun hsome => absurd hhold hsome, fun _ => ⟨hhold, Option.some_ne_none _⟩, fun _ => ⟨hrole, .inr hflight⟩⟩
    · refine h.laneBond_alike (State.armInFlight_of_nil hnil m) ?_ (fun ref hr => ?_) ?_ ?_ ?_
      · rw [hrefs, if_neg hm]
      · rw [hholders, if_neg (hother hr)]
      · rw [hlanes]
      · rw [hlanes]
      · rw [State.armInFlight, hcommands]
        cases d <;> simp [hm]
  · rw [hcommands]
    exact Nat.le_refl 1
  · rw [hcommands]
    intro c hc
    rw [List.mem_singleton.mp hc]
    exact hdirection

/-- A withdraw command is sent to the lane of a HELD record (R107). -/
theorem State.Bonded.withdraw (h : s.Bonded) (hnil : s.commands = []) {k : Nat} {x : Ticket} {n : Lane} {d : Side}
    (hholder : s.table.holder? k = some (x, n, d)) (hholders : ∀ j, t.table.holder? j = s.table.holder? j)
    (hcontexts : t.contexts = s.contexts) (hlanes : t.lanes = s.lanes) (hcommands : t.commands = [.withdraw n])
    (hchosen : t.chosen = none) : t.Bonded := by
  have hhold := h.hold_ne_none hnil (n := n) (by rw [h.held k x n d hholder]; exact Option.some_ne_none _)
  refine ⟨fun m ref href => ?_, fun j y m d' hj => ?_, fun m => ?_, ?_, fun hsome => absurd hchosen hsome, ?_⟩
  · rw [hcontexts] at href
    rw [hholders]
    exact h.named m ref href
  · rw [hholders] at hj
    rw [hcontexts]
    exact h.held j y m d' hj
  · refine h.laneBond_alike (State.armInFlight_of_nil hnil m) (by rw [hcontexts]) (fun ref _ => hholders _)
      (by rw [hlanes]) (by rw [hlanes]) ?_
    rw [State.armInFlight, hcommands]
    simp
  · rw [hcommands]
    exact Nat.le_refl 1
  · rw [hcommands]
    intro c hc
    rw [List.mem_singleton.mp hc, hlanes]
    exact hhold

/-- The arm command in flight is taken, and lane `n` has its hold (R91 to R93). -/
theorem State.Bonded.arm (h : s.Bonded) {n : Lane} {d : Side} (hflying : s.commands = [.arm n d])
    (htable : t.table = s.table) (hcontexts : t.contexts = s.contexts)
    (hrole : (t.lanes.get n).role = (s.lanes.get n).role) (hhold : (t.lanes.get n).hold = some d)
    (hlanes : ∀ m, n ≠ m → t.lanes.get m = s.lanes.get m) (hcommands : t.commands = []) : t.Bonded := by
  have hflight := State.armInFlight_of_nil hcommands
  obtain ⟨-, -, hfit⟩ := h.commands
  have hdirection : s.heldDirection n = some d := hfit (.arm n d) (by rw [hflying]; exact List.mem_singleton_self _)
  refine ⟨fun m ref href => ?_, fun k y m d' hk => ?_, fun m => ?_, State.commandsOk_of_nil hcommands⟩
  · rw [hcontexts] at href
    rw [htable]
    exact h.named m ref href
  · rw [htable] at hk
    rw [hcontexts]
    exact h.held k y m d' hk
  · by_cases hm : n = m
    · subst hm
      obtain ⟨-, -, hnamed⟩ := h.lanes n
      have hsame : t.heldDirection n = s.heldDirection n := by
        rw [State.heldDirection_eq, State.heldDirection_eq, hcontexts, htable]
      rw [State.LaneBond, hhold, hrole, hsame, hdirection, hflight, hcontexts]
      exact ⟨fun _ => rfl, fun hnot => absurd hnot Bool.false_ne_true,
        fun href => ⟨(hnamed href).1, .inl (Option.some_ne_none d)⟩⟩
    · refine h.laneBond_alike ?_ (by rw [hcontexts]) (fun _ _ => by rw [htable]) (by rw [hlanes m hm])
        (by rw [hlanes m hm]) (hflight m)
      rw [State.armInFlight, hflying]
      cases d <;> simp [hm]

/-- The withdraw command in flight is taken, and every hold stays (R107). -/
theorem State.Bonded.withdrawn (h : s.Bonded) {n : Lane} (hflying : s.commands = [.withdraw n])
    (htable : t.table = s.table) (hcontexts : t.contexts = s.contexts)
    (hlanes : ∀ m, (t.lanes.get m).role = (s.lanes.get m).role ∧ (t.lanes.get m).hold = (s.lanes.get m).hold)
    (hcommands : t.commands = []) : t.Bonded := by
  refine ⟨fun m ref href => ?_, fun k y m d' hk => ?_, fun m => ?_, State.commandsOk_of_nil hcommands⟩
  · rw [hcontexts] at href
    rw [htable]
    exact h.named m ref href
  · rw [htable] at hk
    rw [hcontexts]
    exact h.held k y m d' hk
  · obtain ⟨hrole, hhold⟩ := hlanes m
    refine h.laneBond_alike ?_ (by rw [hcontexts]) (fun _ _ => by rw [htable]) hrole hhold
      (State.armInFlight_of_nil hcommands m)
    rw [State.armInFlight, hflying]
    simp

/-- One lane unit is written with the role and the hold it had. -/
theorem State.setLane_halves (s : State) (n : Lane) {lu : LaneUnit} (hrole : lu.role = (s.lanes.get n).role)
    (hhold : lu.hold = (s.lanes.get n).hold) (m : Lane) :
    ((s.setLane n lu).lanes.get m).role = (s.lanes.get m).role ∧
      ((s.setLane n lu).lanes.get m).hold = (s.lanes.get m).hold := by
  rw [State.setLane_lanes, get_set]
  split
  · rename_i hm
    rw [← hm]
    exact ⟨hrole, hhold⟩
  · exact ⟨rfl, rfl⟩

theorem State.setLane_other (s : State) (n : Lane) (lu : LaneUnit) {m : Lane} (hm : n ≠ m) :
    (s.setLane n lu).lanes.get m = s.lanes.get m := by
  rw [State.setLane_lanes, get_set, if_neg hm]

theorem State.setLane_same (s : State) (n : Lane) (lu : LaneUnit) : (s.setLane n lu).lanes.get n = lu := by
  rw [State.setLane_lanes, get_set, if_pos rfl]

/-- A command in flight is taken at its lane unit (R91). -/
theorem State.Inv.bonded_takeLaneCommand (h : s.Inv) {c : LaneCommand} {rest : List LaneCommand}
    (hcommands : s.commands = c :: rest) : ({ s with commands := rest }.takeLaneCommand c).Bonded := by
  obtain ⟨hlength, -, -⟩ := h.commands
  have hrest : rest = [] := by
    rw [hcommands] at hlength
    exact List.length_eq_zero_iff.mp (Nat.le_zero.mp (Nat.le_of_succ_le_succ hlength))
  subst hrest
  cases c with
  | arm n d =>
    obtain ⟨hnone, -, hrole, -, -⟩ := h.armed hcommands
    have harms := (h.lanesFit n).safe.takeArm hnone hrole d
    have hlane := State.setLane_same { s with commands := [] } n ((s.lanes.get n).takeArm d)
    refine h.bonded.arm (t := { s with commands := [] }.setLane n ((s.lanes.get n).takeArm d)) hcommands rfl rfl ?_ ?_
      (fun m hm => State.setLane_other _ n _ hm) rfl
    · rw [hlane]
      exact harms.role
    · rw [hlane]
      exact harms.hold
  | withdraw n =>
    have hruns := (h.lanesFit n).safe.takeWithdraw_runs
    exact h.bonded.withdrawn hcommands rfl rfl
      (State.setLane_halves { s with commands := [] } n hruns.role hruns.hold) rfl

end

end Sys2Proof.Machine
end

section
/-! The bond over every effect, and the whole invariant over every step. -/

namespace Sys2Proof.Machine

section
variable {s t u : State}

theorem State.mapLanes_halves (s : State) {f : LaneUnit → LaneUnit}
    (h : ∀ n : Lane, (f (s.lanes.get n)).role = (s.lanes.get n).role ∧ (f (s.lanes.get n)).hold = (s.lanes.get n).hold)
    (n : Lane) :
    ((s.mapLanes f).lanes.get n).role = (s.lanes.get n).role ∧
      ((s.mapLanes f).lanes.get n).hold = (s.lanes.get n).hold := by
  rw [State.mapLanes, get_map]
  exact h n

/-! ### The bond over the services -/

/-- What a lane's request does to the bond, once the item chosen is over (R82, R87, R88). -/
theorem State.Inv.bonded_laneWork (h : s.Inv) {n : Lane} {item : Service} (hserving : s.serving = some item)
    (hwork : s.LaneWork n u) (htable : t.table = u.table) (hcontexts : t.contexts = u.contexts)
    (hlanes : t.lanes = u.lanes) (hcommands : t.commands = u.commands) (hchosen : t.chosen = none) : t.Bonded := by
  have hbonded := h.bonded
  have hnil := hbonded.no_command hserving
  cases hwork with
  | nothing => exact hbonded.of_eq htable hcontexts (fun m => by rw [hlanes]; exact ⟨rfl, rfl⟩) hcommands (.inr hchosen)
  | refuse =>
    refine hbonded.of_eq htable hcontexts (fun m => ?_) hcommands (.inr hchosen)
    rw [hlanes]
    exact s.setLane_halves n (lu := (s.lanes.get n).countRefusal) rfl rfl m
  | poll =>
    refine hbonded.quiet (fun k => by rw [htable]; rfl) (fun m => ?_) (fun m _ => by rw [hlanes]; rfl)
      (fun m => by rw [hlanes]; rfl) hcommands fun hsome => absurd hchosen hsome
    rw [hcontexts, State.clearPolled, State.setContext_contexts, get_set]
    split
    · rename_i hm
      rw [← hm]
    · rfl
  | cancel slot r x u hheld hstate hends =>
    obtain ⟨hr, -⟩ := State.heldAt_mem hheld
    have hu := hends.frame
    refine hbonded.release hnil hheld (fun k => ?_) (fun m => ?_) ?_ (fun m hm => ?_) ?_
    · rw [htable]
      exact hends.holder? hr k
    · rw [hcontexts, State.closeHold_contexts, hu, get_set]
      split <;> rfl
    · rw [hlanes, State.closeHold_lanes, get_set, if_pos rfl]
      exact LaneUnit.endHold_hold _
    · rw [hlanes, State.closeHold_lanes, get_set, if_neg hm, hu]
      exact State.setLane_other s n _ hm
    · rw [hcommands, State.closeHold_commands, hu]
      exact hnil
  | grant cred slot r _ hdecision =>
    obtain ⟨hchecks, href, ⟨_, -, hlookup⟩, -⟩ := State.checksOfRecord_of_grant hdecision
    have hr := h.table.get?_of_mem (Table.lookup_mem hlookup).1
    have hunheld := State.unheld_of_grant hdecision
    have hrole : (s.lanes.get n).role ≠ .off := by
      intro hoff
      simp only [checksOfLane, List.findSome?_eq_none_iff, id] at hchecks
      have hpassed := hchecks (checkRole (s.lanes.get n).role) (by simp)
      rw [hoff] at hpassed
      cases hpassed
    obtain ⟨zs, -, heq⟩ := s.grantHold_frame n cred slot r
    rw [heq] at htable hcontexts hlanes hcommands
    refine hbonded.grant hnil href hrole (slot := slot) (x := r.ticket) (d := cred.side) ?_ (fun k => ?_) (fun m => ?_)
      hlanes ?_ hchosen
    · rw [Table.holder?_of_get? hr, Record.holder?_of_unheld hunheld]
    · rw [htable, State.rewrite, Table.holder?_set hr]
      rfl
    · rw [hcontexts, get_set]
      split <;> rfl
    · rw [hcommands]
      exact congrArg (· ++ [LaneCommand.arm n cred.side]) hnil

/-- What an uplink request does to the bond, once the item chosen is over. -/
theorem State.Inv.bonded_uplinkWork (h : s.Inv) {item : Service} (hserving : s.serving = some item)
    (hwork : s.UplinkWork u) (htable : t.table = u.table) (hcontexts : t.contexts = u.contexts)
    (hlanes : t.lanes = u.lanes) (hcommands : t.commands = u.commands) (hchosen : t.chosen = none) : t.Bonded := by
  have hbonded := h.bonded
  have hnil := hbonded.no_command hserving
  have quiet (hholders : ∀ k, u.table.holder? k = s.table.holder? k) (hcontexts' : u.contexts = s.contexts)
      (hlanes' : u.lanes = s.lanes) (hcommands' : u.commands = s.commands) : t.Bonded :=
    hbonded.quiet (fun k => by rw [htable]; exact hholders k) (fun m => by rw [hcontexts, hcontexts'])
      (fun m _ => by rw [hlanes, hlanes']) (fun m => by rw [hlanes, hlanes']) (hcommands.trans hcommands')
      fun hsome => absurd hchosen hsome
  have noted {slot : Nat} {r q : Record} (hmem : (slot, r) ∈ s.table) (hq : r.Noted q) (k : Nat) :
      (s.table.set slot q).holder? k = s.table.holder? k :=
    Table.holder?_set_alike (h.table.get?_of_mem hmem) hq.holder? k
  have holder {slot : Nat} {r : Record} {x : Hold} (hmem : (slot, r) ∈ s.table) (hhold : r.state = .held x) :
      s.table.holder? slot = some (r.ticket, x.lane, x.direction) := by
    rw [Table.holder?_of_get? (h.table.get?_of_mem hmem), Record.holder?_of_held hhold]
  cases hwork with
  | note slot r q zs hmem hq _ => exact quiet (noted hmem hq) rfl rfl rfl
  | noteHeld slot r q x zs hmem hq hhold _ =>
    refine hbonded.withdraw hnil (holder hmem hhold) (fun k => ?_) hcontexts hlanes ?_ hchosen
    · rw [htable]
      exact noted hmem hq k
    · rw [hcommands]
      exact congrArg (· ++ [LaneCommand.withdraw x.lane]) hnil
  | double slot r source time zone =>
    have hframe := s.report_frame slot r .double source time zone _ rfl
    exact quiet (s.report_holder? slot r .double source time zone) (by rw [hframe]) (by rw [hframe]) (by rw [hframe])
  | doubleHeld slot r x zs source time zone hmem hhold _ =>
    have hframe := State.report_frame { s with zones := zs } slot r .double source time zone _ rfl
    refine hbonded.withdraw hnil (holder hmem hhold) (fun k => ?_) ?_ ?_ ?_ hchosen
    · rw [htable]
      exact State.report_holder? { s with zones := zs } slot r .double source time zone k
    · rw [hcontexts, State.sendWithdraw_contexts, hframe]
    · rw [hlanes, State.sendWithdraw_lanes, hframe]
    · rw [hcommands, State.sendWithdraw_commands, hframe]
      exact congrArg (· ++ [LaneCommand.withdraw x.lane]) hnil
  | setLane c hwindow hthreshold hrole =>
    have hunnamed : (s.lanes.get c.lane).hold ≠ none →
        c.role.getD (s.lanes.get c.lane).role = (s.lanes.get c.lane).role :=
      fun hsome => hrole fun hnone => hsome (hbonded.hold_eq_none hnone)
    have hchanges := (h.lanesFit c.lane).safe.setLane (s.contexts.get c.lane).holdRef.isSome hunnamed hwindow hthreshold
    refine hbonded.quiet (fun k => by rw [htable]; rfl) (fun m => by rw [hcontexts]; rfl) (fun m href => ?_)
      (fun m => ?_) hcommands fun hsome => absurd hchosen hsome
    · by_cases hm : c.lane = m
      · subst hm
        rw [hlanes, State.setLane_same, hchanges.role]
        exact hrole href
      · rw [hlanes, State.setLane_other _ _ _ hm]
    · by_cases hm : c.lane = m
      · subst hm
        rw [hlanes, State.setLane_same, hchanges.hold]
      · rw [hlanes, State.setLane_other _ _ _ hm]
  | clearTallies =>
    refine hbonded.of_eq htable hcontexts (fun m => ?_) hcommands (.inr hchosen)
    rw [hlanes]
    exact s.mapLanes_halves (fun _ => ⟨rfl, rfl⟩) m
  | _ => exact quiet (fun _ => rfl) rfl rfl rfl

/-- What LOAD_TICKET, DROP_TICKET and CLEAR_TABLE write holds no record and frees no held one (R33 to R36). -/
theorem State.TableWork.holder? (hwork : s.TableWork t) (h : s.TableOk) (k : Nat) :
    t.table.holder? k = s.table.holder? k := by
  cases hwork with
  | nothing => rfl
  | load _ hwork =>
    cases hwork with
    | nothing => rfl
    | insert r hr _ _ =>
      obtain ⟨hfree, -, -⟩ := Table.lowestFree_spec h.1
      rw [Table.holder?, Table.get?_insert h.1 hfree]
      split
      · rename_i hk
        subst hk
        rw [Option.bind_some, Record.holder?_of_unheld hr.hold, Table.holder?, hfree]
        rfl
      · rfl
    | replace slot old r hr hfound hhold _ =>
      refine Table.holder?_set_alike (h.get?_of_mem (Table.lookup_mem hfound).1) ?_ k
      rw [Record.holder?_of_unheld hr.hold, Record.holder?_of_unheld hhold]
  | drop slot old hfound hhold _ =>
    rw [Table.holder?, Table.get?_erase h.1]
    split
    · rename_i hk
      subst hk
      rw [Table.holder?_of_get? (h.get?_of_mem (Table.lookup_mem hfound).1), Record.holder?_of_unheld hhold]
      rfl
    · rfl
  | clear hhold =>
    have hcleared : Table.holder? [] k = none := rfl
    refine hcleared.trans (Eq.symm ?_)
    cases hr : s.table.get? k with
    | none =>
      rw [Table.holder?, hr]
      rfl
    | some r =>
      rw [Table.holder?_of_get? hr]
      exact Record.holder?_of_unheld (hhold (k, r) (Table.get?_mem hr))

theorem State.Inv.bonded_warmReset (h : s.Inv) (pins : WarmPins) : (s.warmReset pins).Bonded := by
  have hunheld := State.endAllHolds_unheld h.table.1
  rw [State.warmReset_eq]
  generalize s.endAllHolds = u at hunheld
  have hcontext (n : Lane) : ((u.clearAtReset pins).contexts.get n).holdRef = none :=
    congrArg LaneContext.holdRef (get_replicate _ n)
  have hhold (n : Lane) : ((u.clearAtReset pins).lanes.get n).hold = none :=
    congrArg LaneUnit.hold (get_zipWith _ _ _ n)
  refine ⟨fun n ref href => ?_, fun k x n d hholder => ?_, fun n => ?_, State.commandsOk_of_nil rfl⟩
  · rw [hcontext n] at href
    cases href
  · obtain ⟨r, x, hr, hstate, -⟩ := Table.holder?_eq_some.mp hholder
    have hnone := hunheld (k, r) (Table.get?_mem hr)
    rw [(r.hold?_eq_some x).mpr hstate] at hnone
    cases hnone
  · exact State.laneBond_of_none (hhold n) (hcontext n) rfl

/-- A raised completion has its held record (R69, R90): the lane's half of a hold never stands alone. -/
theorem State.Inv.heldAt_of_completion (h : s.Inv) {n : Lane} (hcompletion : (s.lanes.get n).completion ≠ none) :
    s.heldAt n ≠ none := by
  have hsafe := (h.lanesFit n).safe
  have hhold := (hsafe.rest (hsafe.underHold_of_completion hcompletion)).1.mpr hcompletion
  obtain ⟨hdirection, -, -⟩ := h.bonded.lanes n
  intro hnone
  have hsome := hdirection hhold
  rw [State.heldDirection, hnone] at hsome
  exact hhold hsome

/-- Every effect keeps the bond. -/
theorem State.Effect.bonded (he : s.Effect t) (h : s.Inv) : t.Bonded := by
  have hbonded := h.bonded
  have hsafe (n : Lane) := (h.lanesFit n).safe
  cases he with
  | countTick => exact hbonded.of_eq rfl rfl (s.mapLanes_halves fun _ => ⟨rfl, rfl⟩) rfl (.inl rfl)
  | expiry n =>
    have hruns := (hsafe n).takeExpiry_runs
    exact hbonded.of_eq rfl rfl (s.setLane_halves n hruns.role hruns.hold) rfl (.inl rfl)
  | assertEvac =>
    exact hbonded.of_eq rfl rfl
      (s.mapLanes_halves fun n => ⟨(hsafe n).takeFree_runs.role, (hsafe n).takeFree_runs.hold⟩) rfl (.inl rfl)
  | releaseEvac =>
    exact hbonded.of_eq rfl rfl
      (s.mapLanes_halves fun n => ⟨(hsafe n).takeUnfree_runs.role, (hsafe n).takeUnfree_runs.hold⟩) rfl (.inl rfl)
  | encoder n pair =>
    have hruns := (hsafe n).takePair_runs pair (s.contexts.get n).holdRef.isSome s.clock.time
    exact hbonded.of_eq rfl rfl (s.setLane_halves n hruns.role hruns.hold) rfl (.inl rfl)
  | command c rest _ hcommands => exact h.bonded_takeLaneCommand hcommands
  | settleCommands =>
    obtain heq | ⟨c, hcommands, heq⟩ := h.settleCommands_cases <;> rw [heq]
    · exact hbonded
    · exact h.bonded_takeLaneCommand hcommands
  | choose item _ hcommands _ =>
    rw [State.choose_frame]
    exact hbonded.quiet (fun _ => rfl) (fun _ => rfl) (fun _ _ => rfl) (fun _ => rfl) rfl fun _ => hcommands
  | holdReset => exact hbonded.of_eq rfl rfl (s.mapLanes_halves fun _ => ⟨rfl, rfl⟩) rfl (.inl rfl)
  | pinHeld level => exact hbonded.of_eq rfl rfl (s.mapLanes_halves fun _ => ⟨rfl, rfl⟩) rfl (.inl rfl)
  | warmReset pins => exact h.bonded_warmReset pins
  | endHold n slot r x howEnded u hserving _ hheld hends =>
    obtain ⟨hr, -⟩ := State.heldAt_mem hheld
    have hu := hends.frame
    have hnil := hbonded.no_command hserving
    refine hbonded.release hnil hheld (hends.holder? hr) (fun m => ?_) ?_ (fun m hm => ?_) ?_
    · rw [State.finish_contexts, State.closeHold_contexts, hu, get_set]
      split <;> rfl
    · rw [State.finish_lanes, State.closeHold_lanes, get_set, if_pos rfl]
      exact LaneUnit.endHold_hold _
    · rw [State.finish_lanes, State.closeHold_lanes, get_set, if_neg hm, hu]
    · rw [State.finish_commands, State.closeHold_commands, hu]
      exact hnil
  | endLaneHold n _ hcompletion hheld => exact absurd hheld (h.heldAt_of_completion hcompletion)
  | forcedReport n =>
    rw [State.reportRecordless_frame]
    refine hbonded.quiet (fun _ => rfl) (fun m => ?_)
      (fun m _ => (s.setLane_halves n (lu := { s.lanes.get n with
        forcedReports := (s.lanes.get n).forcedReports - 1 }) rfl rfl m).1)
      (fun m => (s.setLane_halves n (lu := { s.lanes.get n with
        forcedReports := (s.lanes.get n).forcedReports - 1 }) rfl rfl m).2) rfl fun hsome => absurd rfl hsome
    rw [State.finish_contexts, State.takeForcedReport, State.setContext_contexts, State.setLane_contexts, get_set]
    split
    · rename_i hm
      rw [← hm]
    · rfl
  | gateEvent =>
    rw [State.reportRecordless_frame]
    exact hbonded.of_eq rfl rfl (fun _ => ⟨rfl, rfl⟩) rfl (.inr rfl)
  | backfill slot r _ hfirst _ =>
    have hr := h.table.get?_of_mem (List.mem_of_find?_eq_some hfirst)
    exact hbonded.quiet (Table.holder?_set_alike (q := { r with pendingReport := false }) hr rfl) (fun _ => rfl)
      (fun _ _ => rfl) (fun _ => rfl) rfl fun hsome => absurd rfl hsome
  | noBackfill => exact hbonded.of_eq rfl rfl (fun _ => ⟨rfl, rfl⟩) rfl (.inr rfl)
  | lane n q u reply hserving _ hwork => exact h.bonded_laneWork hserving hwork rfl rfl rfl rfl rfl
  | uplink _ ht =>
    obtain ⟨r, u, a, hserving, -, hwork, -⟩ := ht
    exact h.bonded_uplinkWork hserving hwork rfl rfl rfl rfl rfl
  | _ => exact hbonded.of_eq rfl rfl (fun _ => ⟨rfl, rfl⟩) rfl (.inl rfl)

/-! ### The whole invariant -/

/-- The invariant from its parts, each as the development proves it. -/
theorem State.Inv.of_parts (hledger : t.LedgerOk True) (hrecords : t.RecordsOk) (hreserved : t.ReservedOk)
    (hbonded : t.Bonded) (hfit : t.LanesFit) (hgate : t.GateAgrees) (hjournal : t.JournalOk) (hattn : t.AttnOk)
    (hready : t.ReadyOk) (hbounds : t.BoundsOk) (hserves : t.Serves) : t.Inv := by
  obtain ⟨htable, hpending⟩ := hledger
  obtain ⟨hbond, hlanes, hcommands⟩ := (State.bonded_iff htable.1).mp hbonded
  obtain ⟨hservice, huplink⟩ := (State.serves_iff t).mp hserves
  obtain ⟨hwatermark, htimeout, hevents, hcooldown, hpolled⟩ := hbounds
  refine ⟨htable, hrecords, hpending trivial, hreserved, hbond, fun n => ⟨(hfit n).safe.hold, hlanes n⟩, hcommands,
    fun n => ⟨(hfit n).safe.rotor, (hfit n).safe.live, (hfit n).safe.preload⟩,
    ⟨hgate, fun n => (hfit n).safe.gate⟩, fun n => ?_, hjournal, ⟨hattn, hready⟩,
    ⟨hwatermark, htimeout, hevents, hcooldown, fun n => ⟨(hfit n).safe.forced, hpolled n⟩⟩, hservice, huplink⟩
  split
  · exact (hfit n).held ‹_›
  · exact (hfit n).follows (Bool.eq_false_iff.mpr ‹_›)

theorem State.Inv.boundsOk (h : s.Inv) : s.BoundsOk := by
  obtain ⟨hwatermark, htimeout, hevents, hcooldown, hcounts⟩ := h.counts
  exact ⟨hwatermark, htimeout, hevents, hcooldown, fun n => (hcounts n).2⟩

theorem State.Inv.serves (h : s.Inv) : s.Serves := s.serves_iff.mpr ⟨h.service, h.uplink⟩

/-- Every effect keeps the invariant. -/
theorem State.Inv.effect (h : s.Inv) (he : s.Effect t) : t.Inv :=
  .of_parts (he.ledgerOk ⟨h.table, fun _ => h.pendingReports⟩) (he.recordsOk h.records)
    (he.reservedOk h.reserved h.table h.records) (he.bonded h) (he.lanesFit h) (he.gateAgrees h.gate.1)
    (he.journalOk h.journal) (he.attnOk h.lines.1) (he.readyOk h.lines.2) (he.boundsOk h.boundsOk)
    (he.serves h.serves h.lanesFit)

/-- The three table requests keep the invariant. -/
theorem State.Inv.tableWork (h : s.Inv) (ht : s.Answered s.TableWork t) : t.Inv := by
  obtain ⟨r, u, a, hserving, hslot, hwork, hstatus⟩ := ht
  have hframe := hwork.frame
  have hledger : u.LedgerOk True := .tableWork ⟨h.table, fun _ => h.pendingReports⟩ hwork
  have hrecords := h.records.tableWork hwork
  have hreserved := h.reserved.tableWork h.table hwork
  have hjournal := h.journal.tableWork hwork
  have hattn := State.AttnOk.tableWork h.lines.1 hwork
  have hfit : u.LanesFit := by rw [hframe]; exact h.lanesFit
  have hgate : u.GateAgrees := by rw [hframe]; exact h.gate.1
  have hready : u.ReadyOk := by rw [hframe]; exact h.lines.2
  have hbounds : u.BoundsOk := by rw [hframe]; exact h.boundsOk
  have hbonded : (u.finishUplink r a).Bonded := by
    refine h.bonded.quiet (hwork.holder? h.table) (fun n => ?_) (fun n _ => ?_) (fun n => ?_) ?_
      fun hsome => absurd rfl hsome
    · rw [State.finishUplink_contexts, hframe]
    · rw [State.finishUplink_lanes, hframe]
    · rw [State.finishUplink_lanes, hframe]
    · rw [State.finishUplink_commands, hframe]
  have hserves : (u.finishUplink r a).Serves :=
    h.serves.finishUplink hserving hslot (by rw [hframe]) (by rw [hframe]) (by rw [hframe]) hstatus
  exact .of_parts hledger hrecords hreserved hbonded hfit hgate hjournal hattn hready hbounds hserves

theorem State.Inv.exec {c : Instr} (h : s.Inv) (hexec : exec c s = .next t) : t.Inv :=
  exec_induction (P := State.Inv) (fun _ _ hs he => hs.effect he) (fun _ _ hs ht => hs.tableWork ht)
    (fun s pins _ => (State.powerOn_inv pins).withPending s.pending) h hexec

end

end Sys2Proof.Machine

open Sys2Proof Sys2Proof.Machine

/-- Settles O9: each condition of the invariant is kept by every elementary effect of a command, by the three table
requests and by a power-on, and the queue is no part of it. -/
theorem stepKeepsTheInvariant : Obligations.StepKeepsTheInvariant := by
  intro s t hs hstep
  exact step_induction (P := State.Inv) (fun s l h => h.withPending l) (fun c s t h => State.Inv.exec h) hs hstep

/-- Settles O13: the bond, the lanes and the commands in flight are parts of the invariant that every step keeps. -/
theorem stepKeepsTheHoldBond : Obligations.StepKeepsTheHoldBond := by
  intro s t hs hstep
  have ht := stepKeepsTheInvariant s t hs hstep
  exact ⟨ht.bond, ht.lanes, ht.commands⟩

end

section
/-! The reserved counts, the output lines and the counts over every step (R43, R48, R71, R123, R165, R166, R175, R179,
R192), each from what alone it rests on. -/

namespace Sys2Proof.Machine

/-! ### The table under the three requests that load, drop or clear -/

theorem State.TableOk.tableWork {s t : State} (h : s.TableOk) (hwork : s.TableWork t) : t.TableOk := by
  cases hwork with
  | nothing => exact h
  | load _ hwork =>
    cases hwork with
    | nothing => exact h
    | insert r hr hnew hroom => exact h.insert hr hnew hroom rfl
    | replace slot old r hr hfound =>
      obtain ⟨hmem, hticket⟩ := Table.lookup_mem hfound
      exact h.write (h.get?_of_mem hmem) hticket.symm rfl
  | drop => exact h.erase rfl
  | clear => exact ⟨rfl, List.nodup_nil, fun _ he => nomatch he⟩

/-- The reserved counts with the conditions on the table and its records that they rest on (R17, R20, R48). -/
structure State.ReservesOk (s : State) : Prop where
  table : s.TableOk
  records : s.RecordsOk
  reserved : s.ReservedOk

section
variable {s t : State}

theorem State.ReservesOk.effect (h : s.ReservesOk) (he : s.Effect t) : t.ReservesOk where
  table := (he.ledgerOk (counting := False) ⟨h.table, False.elim⟩).1
  records := he.recordsOk h.records
  reserved := he.reservedOk h.reserved h.table h.records

theorem State.ReservesOk.tableWork (h : s.ReservesOk) (ht : s.Answered s.TableWork t) : t.ReservesOk := by
  obtain ⟨r, u, a, -, -, hwork, -⟩ := ht
  have htable := h.table.tableWork hwork
  exact ⟨htable, (h.records.tableWork hwork).of_eq rfl, (h.reserved.tableWork h.table hwork).of_eq rfl (.refl _)⟩

end

/-! ### What a lane unit's own operations leave of its settings -/

/-- The role and the preload stay, and the forced report count stays within its bound (R123, R131). -/
structure LaneUnit.KeepsSettings (lu lu' : LaneUnit) : Prop where
  role : lu'.role = lu.role
  preload : lu'.preload = lu.preload
  forced : lu.forcedReports ≤ Config.forcedLimit → lu'.forcedReports ≤ Config.forcedLimit

namespace LaneUnit
variable {lu lu' lu'' : LaneUnit}

theorem KeepsSettings.refl (lu : LaneUnit) : lu.KeepsSettings lu := ⟨rfl, rfl, id⟩

theorem KeepsSettings.trans (h : lu.KeepsSettings lu') (h' : lu'.KeepsSettings lu'') : lu.KeepsSettings lu'' :=
  ⟨h'.role.trans h.role, h'.preload.trans h.preload, h'.forced ∘ h.forced⟩

/-- A forced passage's count saturates (R123). -/
theorem forcedPassage_keepsSettings (lu : LaneUnit) (e : Side) : lu.KeepsSettings (lu.move e).forcedPassage :=
  ⟨rfl, rfl, fun _ => min_le_right _ _⟩

theorem stepArmed_keepsSettings (lu : LaneUnit) (d e : Side) (now : VenueTime) :
    lu.KeepsSettings (lu.stepArmed d e now) := by
  have hforced := lu.forcedPassage_keepsSettings e
  unfold stepArmed
  dsimp only
  split
  · split
    · split <;> exact ⟨rfl, rfl, id⟩
    · exact ⟨rfl, rfl, id⟩
  · split
    · exact hforced
    · exact ⟨rfl, rfl, id⟩

theorem stepTurning_keepsSettings (lu : LaneUnit) (d e : Side) (now : VenueTime) :
    lu.KeepsSettings (lu.stepTurning d e now) := by
  unfold stepTurning
  dsimp only
  split
  · exact ⟨rfl, rfl, id⟩
  · split
    · split <;> exact ⟨rfl, rfl, id⟩
    · exact ⟨rfl, rfl, id⟩

theorem step_keepsSettings (lu : LaneUnit) (e : Side) (now : VenueTime) : lu.KeepsSettings (lu.step e now) := by
  have hforced := lu.forcedPassage_keepsSettings e
  have hmoved : lu.KeepsSettings (lu.move e) := ⟨rfl, rfl, id⟩
  have hfree : lu.KeepsSettings (lu.move e).freePassage := ⟨rfl, rfl, id⟩
  unfold step
  dsimp only
  split
  case h_1 => split <;> assumption
  case h_2 =>
    split
    · split <;> assumption
    · exact hmoved
  case h_3 => exact lu.stepArmed_keepsSettings _ e now
  case h_4 => exact lu.stepTurning_keepsSettings _ e now
  case h_5 => split <;> assumption
  case h_6 => exact hmoved

theorem settlePreload_keepsSettings (lu : LaneUnit) (named : Bool) : lu.KeepsSettings (lu.settlePreload named) := by
  obtain ⟨-, -, heq⟩ | heq := lu.settlePreload_cases named <;> rw [heq] <;> exact ⟨rfl, rfl, id⟩

theorem takePair_keepsSettings (lu : LaneUnit) (pair : EncoderPair) (named : Bool) (now : VenueTime) :
    lu.KeepsSettings (lu.takePair pair named now) := by
  unfold takePair
  split
  · rename_i e _
    obtain ⟨hrole, hpreload, hforced⟩ := lu.step_keepsSettings (lu.applyReversed e) now
    have hstepped : lu.KeepsSettings { lu.step (lu.applyReversed e) now with reference := pair } :=
      ⟨hrole, hpreload, hforced⟩
    exact hstepped.trans (settlePreload_keepsSettings _ named)
  · exact ⟨rfl, rfl, id⟩

theorem endHold_keepsSettings (lu : LaneUnit) : lu.KeepsSettings lu.endHold := by
  obtain ⟨hrole, hpreload, hforced⟩ :=
    settlePreload_keepsSettings { lu with hold := none, completion := none } false
  exact ⟨hrole, hpreload, hforced⟩

theorem takeExpiry_keepsSettings (lu : LaneUnit) : lu.KeepsSettings lu.takeExpiry := by
  unfold takeExpiry
  split <;> exact ⟨rfl, rfl, id⟩

theorem takeArm_keepsSettings (lu : LaneUnit) (d : Side) : lu.KeepsSettings (lu.takeArm d) := by
  unfold takeArm
  split <;> exact ⟨rfl, rfl, id⟩

theorem takeWithdraw_keepsSettings (lu : LaneUnit) : lu.KeepsSettings lu.takeWithdraw := by
  unfold takeWithdraw
  split <;> exact ⟨rfl, rfl, id⟩

theorem takeFree_keepsSettings (lu : LaneUnit) : lu.KeepsSettings lu.takeFree := by
  unfold takeFree
  split <;> exact ⟨rfl, rfl, id⟩

theorem takeUnfree_keepsSettings (lu : LaneUnit) : lu.KeepsSettings lu.takeUnfree := by
  unfold takeUnfree
  split <;> exact ⟨rfl, rfl, id⟩

theorem warmReset_keepsSettings (lu : LaneUnit) (pair : EncoderPair) (evac : Bool) :
    lu.KeepsSettings (lu.warmReset pair evac) := ⟨rfl, rfl, fun _ => Nat.zero_le _⟩

/-- SET_LANE leaves the forced report count (R131, R132). -/
theorem setLane_forcedReports (lu : LaneUnit) (c : LaneChange) (named : Bool) :
    (((lu.changeRole c.role).writePreload c).settlePreload named).forcedReports = lu.forcedReports := by
  have hrole : (lu.changeRole c.role).forcedReports = lu.forcedReports := by
    unfold changeRole
    split
    · split
      · rfl
      · unfold takeRole
        dsimp only
        split <;> rfl
    · rfl
  obtain ⟨-, -, heq⟩ | heq := ((lu.changeRole c.role).writePreload c).settlePreload_cases named <;> rw [heq] <;>
    exact hrole

end LaneUnit

/-! ### The forced report counts of the lane units (R123) -/

/-- Every lane unit's forced report count is within its bound (R123). -/
abbrev State.ForcedOk (s : State) : Prop := ∀ n : Lane, (s.lanes.get n).forcedReports ≤ Config.forcedLimit

section
variable {s t : State}

theorem State.ForcedOk.setLane (h : s.ForcedOk) (n : Lane) {lu : LaneUnit}
    (hlu : lu.forcedReports ≤ Config.forcedLimit) : (s.setLane n lu).ForcedOk := by
  intro m
  rw [State.setLane_lanes, get_set]
  split
  · exact hlu
  · exact h m

theorem State.ForcedOk.mapLanes (h : s.ForcedOk) {f : LaneUnit → LaneUnit}
    (hf : ∀ lu : LaneUnit, lu.KeepsSettings (f lu)) : (s.mapLanes f).ForcedOk := by
  intro m
  rw [State.mapLanes, get_map]
  exact (hf _).forced (h m)

theorem State.ForcedOk.takeLaneCommand (h : s.ForcedOk) (c : LaneCommand) : (s.takeLaneCommand c).ForcedOk := by
  cases c with
  | arm n d => exact h.setLane n (((s.lanes.get n).takeArm_keepsSettings d).forced (h n))
  | withdraw n => exact h.setLane n ((s.lanes.get n).takeWithdraw_keepsSettings.forced (h n))

theorem State.ForcedOk.settleCommands (h : s.ForcedOk) : s.settleCommands.ForcedOk := by
  have hfold (l : List LaneCommand) (u : State) (hu : u.ForcedOk) : (l.foldl State.takeLaneCommand u).ForcedOk := by
    induction l generalizing u with
    | nil => exact hu
    | cons c l ih => exact ih _ (hu.takeLaneCommand c)
  exact hfold s.commands { s with commands := [] } h

theorem State.ForcedOk.holdEnds (h : s.ForcedOk) {slot : Nat} {r : Record} {x : Hold}
    (hends : s.HoldEnds slot r x t) : t.ForcedOk := by
  rw [hends.frame]
  exact h

theorem State.ForcedOk.closeHold (h : s.ForcedOk) (n : Lane) (howEnded : HoldEnd) (ticket : Ticket) :
    (s.closeHold n howEnded ticket).ForcedOk :=
  State.ForcedOk.setLane (s := s.setContext n _) h n ((s.lanes.get n).endHold_keepsSettings.forced (h n))

theorem State.ForcedOk.laneWork (h : s.ForcedOk) {n : Lane} (hwork : s.LaneWork n t) : t.ForcedOk := by
  cases hwork with
  | nothing => exact h
  | refuse => exact h.setLane n (h n)
  | poll => exact h
  | cancel slot r x u _ _ hends =>
    have hrelocked : (s.setLane n (s.lanes.get n).relock).ForcedOk := h.setLane n (h n)
    exact (hrelocked.holdEnds hends).closeHold n _ _
  | grant cred slot r =>
    obtain ⟨zs, -, heq⟩ := s.grantHold_frame n cred slot r
    rw [heq]
    exact h

theorem State.ForcedOk.uplinkWork (h : s.ForcedOk) (hwork : s.UplinkWork t) : t.ForcedOk := by
  cases hwork with
  | double slot r source time zone =>
    rw [s.report_frame slot r .double source time zone _ rfl]
    exact h
  | doubleHeld slot r x zs source time zone =>
    rw [State.report_frame { s with zones := zs } slot r .double source time zone _ rfl]
    exact h
  | setLane c => exact h.setLane c.lane (((s.lanes.get c.lane).setLane_forcedReports c _).trans_le (h c.lane))
  | clearTallies => exact h.mapLanes fun _ => ⟨rfl, rfl, id⟩
  | _ => exact h

theorem State.ForcedOk.warmReset (h : s.ForcedOk) (pins : WarmPins) : (s.warmReset pins).ForcedOk := by
  have hall : s.endAllHolds.ForcedOk :=
    State.endAllHolds_induction (fun _ _ _ _ _ hs _ _ hends => State.ForcedOk.holdEnds hs hends) h
  rw [State.warmReset_eq]
  generalize s.endAllHolds = u at hall
  intro n
  have hlane : (u.clearAtReset pins).lanes.get n = (u.lanes.get n).warmReset (pins.encoders.get n) u.evacPin :=
    get_zipWith _ _ _ n
  rw [hlane]
  exact ((u.lanes.get n).warmReset_keepsSettings _ _).forced (hall n)

/-- Every effect keeps the forced report counts within their bound. -/
theorem State.Effect.forcedOk (he : s.Effect t) (h : s.ForcedOk) : t.ForcedOk := by
  cases he with
  | countTick => exact h.mapLanes (f := LaneUnit.tickTimer) fun _ => ⟨rfl, rfl, id⟩
  | expiry n => exact h.setLane n ((s.lanes.get n).takeExpiry_keepsSettings.forced (h n))
  | assertEvac => exact h.mapLanes LaneUnit.takeFree_keepsSettings
  | releaseEvac => exact h.mapLanes LaneUnit.takeUnfree_keepsSettings
  | encoder n pair => exact h.setLane n (((s.lanes.get n).takePair_keepsSettings pair _ _).forced (h n))
  | command c rest => exact State.ForcedOk.takeLaneCommand (s := { s with commands := rest }) h c
  | settleCommands => exact h.settleCommands
  | choose item =>
    rw [State.choose_frame]
    exact h
  | holdReset => exact h.mapLanes (f := LaneUnit.followPin s.evacPin) fun _ => ⟨rfl, rfl, id⟩
  | pinHeld level =>
    exact State.ForcedOk.mapLanes (s := { s with evacPin := level }) (f := LaneUnit.followPin level) h
      fun _ => ⟨rfl, rfl, id⟩
  | warmReset pins => exact h.warmReset pins
  | endHold n slot r x howEnded u _ _ _ hends => exact (h.holdEnds hends).closeHold n howEnded r.ticket
  | endLaneHold n => exact h.setLane n ((s.lanes.get n).endHold_keepsSettings.forced (h n))
  | forcedReport n =>
    rw [State.reportRecordless_frame]
    exact h.setLane n (lu := { s.lanes.get n with forcedReports := (s.lanes.get n).forcedReports - 1 })
      ((Nat.sub_le _ _).trans (h n))
  | gateEvent =>
    rw [State.reportRecordless_frame]
    exact h
  | lane n q u reply _ _ hwork =>
    have hu := h.laneWork hwork
    exact hu
  | uplink _ ht =>
    obtain ⟨r, u, a, -, -, hwork, -⟩ := ht
    have hu := h.uplinkWork hwork
    exact hu
  | _ => exact h

/-! ### All counts, and the lines -/

theorem State.countsOk_iff (s : State) : s.CountsOk ↔ s.BoundsOk ∧ s.ForcedOk := by
  constructor
  · rintro ⟨hwatermark, htimeout, hevents, hcooldown, hlanes⟩
    exact ⟨⟨hwatermark, htimeout, hevents, hcooldown, fun n => (hlanes n).2⟩, fun n => (hlanes n).1⟩
  · rintro ⟨⟨hwatermark, htimeout, hevents, hcooldown, hpolled⟩, hforced⟩
    exact ⟨hwatermark, htimeout, hevents, hcooldown, fun n => ⟨hforced n, hpolled n⟩⟩

theorem State.CountsOk.effect (h : s.CountsOk) (he : s.Effect t) : t.CountsOk := by
  obtain ⟨hbounds, hforced⟩ := s.countsOk_iff.mp h
  exact t.countsOk_iff.mpr ⟨he.boundsOk hbounds, he.forcedOk hforced⟩

/-- The three table requests touch no count with a bound. -/
theorem State.CountsOk.tableWork (h : s.CountsOk) (ht : s.Answered s.TableWork t) : t.CountsOk := by
  obtain ⟨r, u, a, -, -, hwork, -⟩ := ht
  have hu : u.CountsOk := by rw [hwork.frame]; exact h
  exact hu

theorem State.LinesOk.effect (h : s.LinesOk) (he : s.Effect t) : t.LinesOk := ⟨he.attnOk h.1, he.readyOk h.2⟩

theorem State.LinesOk.tableWork (h : s.LinesOk) (ht : s.Answered s.TableWork t) : t.LinesOk := by
  obtain ⟨r, u, a, -, -, hwork, -⟩ := ht
  have hready : u.ReadyOk := by rw [hwork.frame]; exact h.2
  have hattn : u.AttnOk := .tableWork h.1 hwork
  exact ⟨hattn, hready⟩

end

end Sys2Proof.Machine

open Sys2Proof Sys2Proof.Machine

/-- Settles O12: every effect, the three table requests and a power-on keep the reserved counts of a table in its
canonical form whose records are consistent. -/
theorem stepKeepsReservedCounts : Obligations.StepKeepsReservedCounts := by
  intro s t htable hrecords hreserved hstep
  refine State.ReservesOk.reserved (step_induction (P := State.ReservesOk)
    (fun _ _ h => ⟨h.table, h.records, h.reserved⟩) (fun c s t h hexec => ?_) ⟨htable, hrecords, hreserved⟩ hstep)
  exact exec_induction (fun _ _ h he => h.effect he) (fun _ _ h ht => h.tableWork ht)
    (fun s pins _ =>
      have hinv := (State.powerOn_inv pins).withPending s.pending
      ⟨hinv.table, hinv.records, hinv.reserved⟩) h hexec

/-- Settles O16: every effect, the three table requests and a power-on keep the lines at their conditions, and the
counts within their bounds, each without the other. -/
theorem stepKeepsLinesAndCounts : Obligations.StepKeepsLinesAndCounts := by
  intro s t hstep
  constructor
  · intro hlines
    refine step_induction (P := State.LinesOk) (fun _ _ h => h) (fun c s t h hexec => ?_) hlines hstep
    exact exec_induction (fun _ _ h he => h.effect he) (fun _ _ h ht => h.tableWork ht)
      (fun s pins _ => ((State.powerOn_inv pins).withPending s.pending).lines) h hexec
  · intro hcounts
    refine step_induction (P := State.CountsOk) (fun _ _ h => h) (fun c s t h hexec => ?_) hcounts hstep
    exact exec_induction (fun _ _ h he => h.effect he) (fun _ _ h ht => h.tableWork ht)
      (fun s pins _ => ((State.powerOn_inv pins).withPending s.pending).counts) h hexec
end

section
/-! Who writes the settings of the part (R43, R49, R52, R131, R165, R176, R179): one request each, the tick for the
clock, and no other command but a power-on reset. -/

namespace Sys2Proof.Machine

/-- The settings of the part: what requests write, and the Venue Clock. -/
structure Setup where
  classes : Vector ClassRecord 32
  capacities : Vector (BitVec 16) 16
  gateId : GateId
  eventCode : EventCode
  linkTimeout : Nat
  watermark : Nat
  /-- The role and the preload of each lane. -/
  lanes : Vector (Role × Settings) 6
  clock : Clock

/-- The settings as they stand. -/
def State.setup (s : State) : Setup :=
  { classes := s.classes, capacities := s.zones.map (·.capacity), gateId := s.gc.gateId
    eventCode := s.gc.eventCode, linkTimeout := s.gc.linkTimeout, watermark := s.watermark
    lanes := s.lanes.map fun lu => (lu.role, lu.preload), clock := s.clock }

/-- What a command may make of the settings. -/
inductive Setup.Written (p : Setup) : Instr → Setup → Prop
  | kept (c : Instr) : p.Written c p
  | setClass (v : Vector ClassRecord 32) : p.Written .setClass { p with classes := v }
  | setZone (v : Vector (BitVec 16) 16) : p.Written .setZone { p with capacities := v }
  | setIdentity (g : GateId) (e : EventCode) : p.Written .setIdentity { p with gateId := g, eventCode := e }
  | setLinkTimeout (k : Nat) : p.Written .setLinkTimeout { p with linkTimeout := k }
  | setWatermark (k : Nat) : p.Written .setWatermark { p with watermark := k }
  | setLane (v : Vector (Role × Settings) 6) : p.Written .setLane { p with lanes := v }
  | setClock (w : VenueTime) : p.Written .setClock { p with clock := ⟨w, true⟩ }
  | tick (w : VenueTime) : p.Written .venueClockTick { p with clock := ⟨w, p.clock.valid⟩ }

/-- Each setting is written by its own command alone, and a valid clock stays valid (R43, R49, R52, R131, R165, R176,
R179). -/
structure Setup.OneWriter (p : Setup) (c : Instr) (q : Setup) : Prop where
  classes : c ≠ .setClass → q.classes = p.classes
  capacities : c ≠ .setZone → q.capacities = p.capacities
  identity : c ≠ .setIdentity → q.gateId = p.gateId ∧ q.eventCode = p.eventCode
  linkTimeout : c ≠ .setLinkTimeout → q.linkTimeout = p.linkTimeout
  watermark : c ≠ .setWatermark → q.watermark = p.watermark
  lanes : c ≠ .setLane → q.lanes = p.lanes
  valid : c ≠ .setClock → q.clock.valid = p.clock.valid
  clock : c ≠ .setClock → c ≠ .venueClockTick → q.clock = p.clock
  staysValid : p.clock.valid = true → q.clock.valid = true

theorem Setup.Written.oneWriter {p q : Setup} {c : Instr} (h : p.Written c q) : p.OneWriter c q := by
  cases h <;> constructor <;> simp

theorem State.setup_capacities_get (s : State) (z : ZoneNo) :
    s.setup.capacities.get z = (s.zones.get z).capacity := get_map _ _ z

theorem State.setup_lanes_get (s : State) (n : Lane) :
    s.setup.lanes.get n = ((s.lanes.get n).role, (s.lanes.get n).preload) :=
  get_map (fun lu : LaneUnit => (lu.role, lu.preload)) _ n

/-! ### What the operations leave of the settings -/

section
variable {s t : State}

theorem State.setup_setLane (n : Lane) {lu : LaneUnit} (h : (s.lanes.get n).KeepsSettings lu) :
    (s.setLane n lu).setup = s.setup := by
  have hlanes : (s.lanes.set n lu).map (fun x => (x.role, x.preload)) = s.lanes.map fun x => (x.role, x.preload) := by
    refine get_ext fun m => ?_
    simp only [get_map, get_set]
    split
    · rename_i hm; rw [h.role, h.preload, hm]
    · rfl
  exact congrArg (fun v => { s.setup with lanes := v }) hlanes

theorem State.setup_mapLanes (s : State) {f : LaneUnit → LaneUnit} (h : ∀ lu : LaneUnit, lu.KeepsSettings (f lu)) :
    (s.mapLanes f).setup = s.setup := by
  have hlanes : (s.lanes.map f).map (fun x => (x.role, x.preload)) = s.lanes.map fun x => (x.role, x.preload) := by
    refine get_ext fun m => ?_
    simp only [get_map, (h _).role, (h _).preload]
  exact congrArg (fun v => { s.setup with lanes := v }) hlanes

theorem State.setup_of_capacities (htable : t.setup = { s.setup with capacities := t.setup.capacities })
    (hzones : ∀ z : ZoneNo, (t.zones.get z).capacity = (s.zones.get z).capacity) : t.setup = s.setup := by
  have hcapacities : t.setup.capacities = s.setup.capacities :=
    get_ext fun z => by simpa [State.setup] using hzones z
  rw [htable, hcapacities]

theorem State.setup_modifyZone (s : State) (z : ZoneNo) {f : ZoneRecord → ZoneRecord}
    (hf : ∀ x, (f x).capacity = x.capacity) : (s.modifyZone z f).setup = s.setup := by
  refine State.setup_of_capacities rfl fun y => ?_
  simp only [State.modifyZone, get_set]
  split
  · rename_i h; rw [hf, h]
  · rfl

theorem State.setup_modifyReservedZone (s : State) (h : Hold) {f : ZoneRecord → ZoneRecord}
    (hf : ∀ x, (f x).capacity = x.capacity) : (s.modifyReservedZone h f).setup = s.setup := by
  unfold State.modifyReservedZone
  split
  · exact s.setup_modifyZone _ hf
  · rfl

@[simp] theorem State.setup_finish (s : State) : s.finish.setup = s.setup := rfl

@[simp] theorem State.setup_sendWithdraw (s : State) (n : Lane) : (s.sendWithdraw n).setup = s.setup := rfl

@[simp] theorem State.setup_report (s : State) (slot : Nat) (r : Record) (kind : Kind) (source : Source)
    (time : VenueTime) (zone : ZoneNo) : (s.report slot r kind source time zone).setup = s.setup := by
  rw [s.report_frame slot r kind source time zone _ rfl]
  rfl

@[simp] theorem State.setup_reportRecordless (s : State) (kind : Kind) (source : Source) (time : VenueTime) :
    (s.reportRecordless kind source time).setup = s.setup := by
  rw [s.reportRecordless_frame]
  rfl

/-- What keeps the settings at each item of a list keeps them over the list. -/
theorem State.setup_foldl {α : Type} {f : State → α → State} (hf : ∀ (s : State) (a : α), (f s a).setup = s.setup)
    (l : List α) (s : State) : (l.foldl f s).setup = s.setup := by
  induction l generalizing s with
  | nil => rfl
  | cons a l ih => exact (ih _).trans (hf s a)

/-! ### The ends of holds -/

@[simp] theorem State.setup_endNonCommit (s : State) (slot : Nat) (r : Record) (h : Hold) (now : VenueTime) :
    (s.endNonCommit slot r h now).setup = s.setup := by
  obtain ⟨u, rfl, ⟨m, -, -, heq⟩ | ⟨-, heq⟩⟩ := s.endNonCommit_cases slot r h now <;> rw [heq]
  · rw [State.setup_report]
    exact State.setup_modifyReservedZone _ h fun _ => rfl
  · exact State.setup_modifyReservedZone _ h fun _ => rfl

@[simp] theorem State.setup_endCommit (s : State) (slot : Nat) (r : Record) (h : Hold) (capture : VenueTime) :
    (s.endCommit slot r h capture).setup = s.setup := by
  unfold State.endCommit
  dsimp only
  split <;> rw [State.setup_report]
  · exact State.setup_modifyReservedZone _ h fun _ => rfl
  · exact State.setup_modifyZone _ _ fun _ => rfl

@[simp] theorem State.setup_closeHold (s : State) (n : Lane) (howEnded : HoldEnd) (ticket : Ticket) :
    (s.closeHold n howEnded ticket).setup = s.setup :=
  State.setup_setLane (s := s.setContext n _) n (s.lanes.get n).endHold_keepsSettings

theorem State.setup_serveCommit (s : State) (n : Lane) (capture : VenueTime) :
    (s.serveCommit n capture).setup = s.setup := by
  unfold State.serveCommit
  split
  · rw [State.setup_finish, State.setup_closeHold, State.setup_endCommit]
  · exact State.setup_setLane n (s.lanes.get n).endHold_keepsSettings

theorem State.setup_serveNonCommit (s : State) (n : Lane) (howEnded : HoldEnd) :
    (s.serveNonCommit n howEnded).setup = s.setup := by
  unfold State.serveNonCommit
  split
  · rw [State.setup_finish, State.setup_closeHold, State.setup_endNonCommit]
  · exact State.setup_setLane n (s.lanes.get n).endHold_keepsSettings

theorem State.setup_endAllHolds (s : State) : s.endAllHolds.setup = s.setup := by
  have hone (s : State) (slot : Nat) : (s.endByReset slot).setup = s.setup := by
    unfold State.endByReset
    split
    · split
      · exact s.setup_endNonCommit _ _ _ _
      · rfl
    · rfl
  exact State.setup_foldl (fun s n => State.setup_foldl hone _ s) lanesAscending s

/-- A warm reset keeps the settings (R39, R136, R180). -/
theorem State.setup_warmReset (s : State) (pins : WarmPins) : (s.warmReset pins).setup = s.setup := by
  rw [State.warmReset_eq, ← s.setup_endAllHolds]
  generalize s.endAllHolds = u
  have hlanes : (u.clearAtReset pins).setup.lanes = u.setup.lanes := by
    refine get_ext fun n => ?_
    have hlane : (u.clearAtReset pins).lanes.get n = (u.lanes.get n).warmReset (pins.encoders.get n) u.evacPin :=
      get_zipWith _ _ _ n
    simp only [State.setup, get_map, hlane]
    rfl
  have hgc : (u.clearAtReset pins).gc = u.gc.warmReset u.evacPin := rfl
  have hcontroller : (u.clearAtReset pins).setup =
      { u.setup with
        capacities := (u.clearAtReset pins).setup.capacities, lanes := (u.clearAtReset pins).setup.lanes } := by
    rw [State.setup, hgc, GateController.warmReset_eq]
    rfl
  rw [hlanes] at hcontroller
  refine State.setup_of_capacities hcontroller fun z => ?_
  have hzone : (u.clearAtReset pins).zones.get z = { u.zones.get z with reserved := 0 } := get_map _ _ z
  rw [hzone]

/-! ### What is due -/

theorem State.setup_settleExpiry (s : State) (n : Lane) : (s.settleExpiry n).setup = s.setup := by
  unfold State.settleExpiry
  split
  · exact State.setup_setLane n (s.lanes.get n).takeExpiry_keepsSettings
  · rfl

theorem State.setup_settleTimeout (s : State) : s.settleTimeout.setup = s.setup := by
  unfold State.settleTimeout
  split <;> rfl

theorem State.setup_assertEvac (s : State) : s.assertEvac.setup = s.setup :=
  s.setup_mapLanes LaneUnit.takeFree_keepsSettings

theorem State.setup_releaseEvac (s : State) : s.releaseEvac.setup = s.setup :=
  s.setup_mapLanes LaneUnit.takeUnfree_keepsSettings

theorem State.setup_settleEvac (s : State) : s.settleEvac.setup = s.setup := by
  unfold State.settleEvac
  split
  · exact s.setup_assertEvac
  · split
    · exact s.setup_releaseEvac
    · rfl

theorem State.setup_settleDue (s : State) : s.settleDue.setup = s.setup :=
  calc s.settleDue.setup
    _ = (lanesAscending.foldl State.settleExpiry s).settleTimeout.setup := State.setup_settleEvac _
    _ = (lanesAscending.foldl State.settleExpiry s).setup := State.setup_settleTimeout _
    _ = s.setup := State.setup_foldl State.setup_settleExpiry _ s

theorem State.setup_arrive (s : State) : s.arrive.setup = s.setup := by
  unfold State.arrive
  split
  · rfl
  · dsimp only
    split
    · rw [GateController.hearFrame_eq]
      rfl
    · rfl

theorem State.setup_settleAll (s : State) : s.settleAll.setup = s.setup :=
  (State.setup_settleDue _).trans s.setup_arrive

theorem State.setup_countTick (s : State) : s.countTick.setup = s.setup := by
  have htimers := s.setup_mapLanes (f := LaneUnit.tickTimer) fun _ => ⟨rfl, rfl, id⟩
  rw [← htimers, State.countTick, s.gc.tickMonitor_frame]
  rfl

theorem State.setup_followPin (s : State) (level : Bool) : (s.mapLanes (LaneUnit.followPin level)).setup = s.setup :=
  s.setup_mapLanes fun _ => ⟨rfl, rfl, id⟩

theorem State.setup_holdReset (s : State) : s.holdReset.setup = s.setup := s.setup_followPin s.evacPin

/-! ### Commands in flight and the services of the lanes -/

theorem State.setup_takeLaneCommand (s : State) (c : LaneCommand) : (s.takeLaneCommand c).setup = s.setup := by
  cases c with
  | arm n d => exact State.setup_setLane n ((s.lanes.get n).takeArm_keepsSettings d)
  | withdraw n => exact State.setup_setLane n (s.lanes.get n).takeWithdraw_keepsSettings

theorem State.setup_settleCommands (s : State) : s.settleCommands.setup = s.setup :=
  State.setup_foldl State.setup_takeLaneCommand s.commands { s with commands := [] }

theorem State.setup_present (s : State) (n : Lane) (cred : Credential) : (s.present n cred).1.setup = s.setup := by
  have hrefused : (s.countRefusal n).setup = s.setup := State.setup_setLane n ⟨rfl, rfl, id⟩
  unfold State.present
  split
  · exact hrefused
  · exact hrefused
  · rfl
  · exact State.setup_modifyReservedZone _ _ fun _ => rfl

theorem State.setup_cancelHold (s : State) (n : Lane) : (s.cancelHold n).1.setup = s.setup := by
  unfold State.cancelHold
  split
  · rename_i slot r h _ _
    have hrelocked : (s.setLane n (s.lanes.get n).relock).setup = s.setup := State.setup_setLane n ⟨rfl, rfl, id⟩
    dsimp only
    rw [State.setup_closeHold, State.setup_endNonCommit, hrelocked]
  · rfl

theorem State.setup_takeForcedReport (s : State) (n : Lane) : (s.takeForcedReport n).setup = s.setup :=
  State.setup_setLane (s := s) n ⟨rfl, rfl, (Nat.sub_le _ _).trans⟩

/-! ### The services of uplink requests -/

theorem setup_noteAdmitHeld (s : State) (slot : Nat) (r : Record) (h : Hold) (x : Notice) :
    (noteAdmitHeld s slot r h x).1.setup = s.setup := by
  unfold noteAdmitHeld
  dsimp only
  split
  · rfl
  · rw [State.setup_sendWithdraw]
    exact State.setup_modifyZone _ _ fun _ => rfl
  · rw [State.setup_sendWithdraw, State.reportDouble, State.setup_report]
    exact s.setup_modifyZone _ fun _ => rfl

theorem setup_noteAdmitFound (s : State) (slot : Nat) (r : Record) (x : Notice) :
    (noteAdmitFound s slot r x).1.setup = s.setup := by
  have hcounted : ((s.setRecord slot (r.admittedElsewhere x)).modifyZone (s.zoneOf r) ZoneRecord.countIn).setup
      = s.setup := State.setup_modifyZone _ _ fun _ => rfl
  have hdoubled : (s.reportDouble slot r x).setup = s.setup := State.setup_report ..
  unfold noteAdmitFound
  dsimp only
  split
  · exact hcounted
  · exact hcounted
  · exact hdoubled
  · exact hdoubled
  · exact hdoubled
  · exact setup_noteAdmitHeld s slot r _ x

theorem setup_noteExitFound (s : State) (slot : Nat) (r : Record) (x : Notice) :
    (noteExitFound s slot r x).1.setup = s.setup := by
  unfold noteExitFound
  split
  · exact State.setup_modifyZone _ _ fun _ => rfl
  · rfl
  · rfl

theorem setup_noticeService {found : State → Nat → Record → Notice → State × Answer}
    (hfound : ∀ s slot r x, (found s slot r x).1.setup = s.setup) (s : State) (p : List Byte) :
    (noticeService found s p).1.setup = s.setup := by
  unfold noticeService
  split
  · rfl
  · split
    · rfl
    · split
      · rfl
      · exact hfound _ _ _ _

theorem setup_revokeService (s : State) (p : List Byte) : (revokeService s p).1.setup = s.setup := by
  unfold revokeService
  split
  · rfl
  · split
    · rfl
    · split <;> rfl

theorem setup_loadTicketService (s : State) (p : List Byte) : (loadTicketService s p).1.setup = s.setup := by
  unfold loadTicketService
  split
  · rfl
  · split
    · rfl
    · split
      · rfl
      · split
        · split <;> rfl
        · split
          · rfl
          · split <;> rfl

theorem setup_dropTicketService (s : State) (p : List Byte) : (dropTicketService s p).1.setup = s.setup := by
  unfold dropTicketService
  split
  · rfl
  · split
    · rfl
    · split
      · rfl
      · split <;> rfl

theorem setup_clearTableService (s : State) (p : List Byte) : (clearTableService s p).1.setup = s.setup := by
  unfold clearTableService
  split
  · rfl
  · split <;> rfl

theorem setup_queryTicketService (s : State) (p : List Byte) : (queryTicketService s p).1.setup = s.setup := by
  unfold queryTicketService
  split
  · rfl
  · split <;> rfl

theorem setup_openGateService (s : State) (p : List Byte) : (openGateService s p).1.setup = s.setup := by
  unfold openGateService
  split <;> rfl

theorem setup_closeGateService (s : State) (p : List Byte) : (closeGateService s p).1.setup = s.setup := by
  unfold closeGateService
  split <;> rfl

theorem setup_readTalliesService (s : State) (p : List Byte) : (readTalliesService s p).1.setup = s.setup := by
  unfold readTalliesService
  split
  · rfl
  · dsimp only
    split
    · exact s.setup_mapLanes fun _ => ⟨rfl, rfl, id⟩
    · rfl

/-! ### The services that write a setting -/

theorem written_setClassService (s : State) (p : List Byte) :
    s.setup.Written .setClass (setClassService s p).1.setup := by
  unfold setClassService
  split
  · exact .kept _
  · exact .setClass _

theorem written_setZoneService (s : State) (p : List Byte) :
    s.setup.Written .setZone (setZoneService s p).1.setup := by
  unfold setZoneService
  split
  · exact .kept _
  · exact .setZone _

theorem written_setIdentityService (s : State) (p : List Byte) :
    s.setup.Written .setIdentity (setIdentityService s p).1.setup := by
  unfold setIdentityService
  split
  · split
    · exact .kept _
    · exact .setIdentity _ _
  · exact .kept _

theorem written_setLaneService (s : State) (p : List Byte) :
    s.setup.Written .setLane (setLaneService s p).1.setup := by
  unfold setLaneService
  split
  · exact .kept _
  · dsimp only
    split
    · exact .kept _
    · exact .setLane _

/-- A served request writes what its service writes. -/
theorem State.written_serveUplink {c : Instr} {k : UplinkKind} {serve : State → List Byte → State × Answer}
    (hserve : ∀ p, s.setup.Written c (serve s p).1.setup) : s.setup.Written c (s.serveUplink k serve).setup := by
  obtain ⟨r, -, -, -, heq⟩ | heq := s.serveUplink_cases k serve <;> rw [heq]
  · exact hserve r.payload
  · exact .kept c

/-! ### Every command -/

theorem Setup.Written.of_eq {p q : Setup} (c : Instr) (h : q = p) : p.Written c q := by
  rw [h]
  exact .kept c

theorem execServiceArbiterChoice_setup (h : execServiceArbiterChoice s = .next t) : t.setup = s.setup := by
  unfold execServiceArbiterChoice at h
  split at h
  · dsimp only at h
    split at h <;> obtain rfl := next_inj h
    · rw [State.choose_frame]
      exact s.setup_settleCommands
    · exact s.setup_settleCommands
  · obtain rfl := next_inj h; rfl

theorem execRstAssertion_setup (h : execRstAssertion s = .next t) : t.setup = s.setup := by
  unfold execRstAssertion at h
  split at h <;> obtain rfl := next_inj h
  · rfl
  · rw [State.setup_holdReset, State.setup_settleAll]

theorem execWarmReset_setup {pins : WarmPins} (h : execWarmReset pins s = .next t) : t.setup = s.setup := by
  unfold execWarmReset at h
  split at h
  · obtain rfl := next_inj h; exact s.setup_warmReset pins
  · split at h <;> obtain rfl := next_inj h
    · rw [State.setup_warmReset, State.setup_settleAll]
    · rfl

theorem execReplySent_setup (h : execReplySent s = .next t) : t.setup = s.setup := by
  unfold execReplySent at h
  split at h
  · split at h <;> obtain rfl := next_inj h <;> rfl
  · obtain rfl := next_inj h; rfl

theorem execVenueClockTick_written (h : execVenueClockTick s = .next t) :
    s.setup.Written .venueClockTick t.setup := by
  have hclock : s.setup.Written .venueClockTick s.tickClock.setup := .tick _
  unfold execVenueClockTick at h
  split at h <;> obtain rfl := next_inj h
  · exact hclock
  · rw [State.setup_countTick, State.setup_settleDue]
    exact hclock

/-- What a command but a power-on reset makes of the settings. -/
theorem exec_written {c : Instr} (hpower : ∀ pins, c ≠ .powerOnReset pins) (h : exec c s = .next t) :
    s.setup.Written c t.setup := by
  have served {c : Instr} {k : UplinkKind} {serve : State → List Byte → State × Answer}
      (hserve : ∀ (s : State) (p : List Byte), s.setup.Written c (serve s p).1.setup)
      (ht : (.next (s.serveUplink k serve) : Host.Outcome State Fault Refusal) = .next t) :
      s.setup.Written c t.setup := by
    obtain rfl := next_inj ht
    exact State.written_serveUplink (hserve s)
  have keeps {c : Instr} {serve : State → List Byte → State × Answer}
      (hserve : ∀ s p, (serve s p).1.setup = s.setup) (s : State) (p : List Byte) :
      s.setup.Written c (serve s p).1.setup := .of_eq c (hserve s p)
  cases c <;> simp only [exec] at h
  case powerOnReset pins => exact absurd rfl (hpower pins)
  case venueClockTick => exact execVenueClockTick_written h
  case setClass => exact served written_setClassService h
  case setZone => exact served written_setZoneService h
  case setIdentity => exact served written_setIdentityService h
  case setLinkTimeout => exact served (fun _ _ => .setLinkTimeout _) h
  case setWatermark => exact served (fun _ _ => .setWatermark _) h
  case setLane => exact served written_setLaneService h
  case setClock => exact served (fun _ _ => .setClock _) h
  case loadTicket => exact served (keeps setup_loadTicketService) h
  case dropTicket => exact served (keeps setup_dropTicketService) h
  case clearTable => exact served (keeps setup_clearTableService) h
  case queryTicket => exact served (keeps setup_queryTicketService) h
  case noteAdmit => exact served (keeps (setup_noticeService setup_noteAdmitFound)) h
  case noteExit => exact served (keeps (setup_noticeService setup_noteExitFound)) h
  case revoke => exact served (keeps setup_revokeService) h
  case openGate => exact served (keeps setup_openGateService) h
  case closeGate => exact served (keeps setup_closeGateService) h
  case readTallies => exact served (keeps setup_readTalliesService) h
  case unknownRequest => exact served (fun _ _ => .kept _) h
  case readClock => exact served (fun _ _ => .kept _) h
  case takeJournal => exact served (fun _ _ => .kept _) h
  case status => exact served (fun _ _ => .kept _) h
  case restart => exact served (fun _ _ => .kept _) h
  all_goals refine .of_eq _ ?_
  case serviceArbiterChoice => exact execServiceArbiterChoice_setup h
  case rstAssertion => exact execRstAssertion_setup h
  case warmReset => exact execWarmReset_setup h
  case evacAssertion =>
    unfold execEvacAssertion at h
    split at h <;> obtain rfl := next_inj h
    · exact s.setup_assertEvac
    · rfl
  case evacRelease =>
    unfold execEvacRelease at h
    split at h <;> obtain rfl := next_inj h
    · exact s.setup_releaseEvac
    · rfl
  case encoderEvent n pair =>
    unfold execEncoderEvent at h
    dsimp only at h
    split at h <;> obtain rfl := next_inj h
    · rfl
    · exact State.setup_setLane n ((s.lanes.get n).takePair_keepsSettings pair _ _)
  case armTimerExpiry n =>
    unfold execArmTimerExpiry at h
    split at h <;> obtain rfl := next_inj h
    · rfl
    · exact s.setup_settleExpiry n
  case armCommand =>
    unfold execArmCommand at h
    split at h <;> obtain rfl := next_inj h
    · exact State.setup_takeLaneCommand { s with commands := _ } _
    · rfl
  case withdrawCommand =>
    unfold execWithdrawCommand at h
    split at h <;> obtain rfl := next_inj h
    · exact State.setup_takeLaneCommand { s with commands := _ } _
    · rfl
  case linkMonitorTimeout =>
    unfold execLinkMonitorTimeout at h
    split at h <;> obtain rfl := next_inj h
    · rfl
    · exact s.setup_settleTimeout
  case commitCompletion =>
    unfold execCommitCompletion at h
    split at h <;> obtain rfl := next_inj h
    · exact s.setup_serveCommit _ _
    · rfl
  case expiryCompletion =>
    unfold execExpiryCompletion at h
    split at h <;> obtain rfl := next_inj h
    · exact s.setup_serveNonCommit _ _
    · rfl
  case withdrawnCompletion =>
    unfold execWithdrawnCompletion at h
    split at h <;> obtain rfl := next_inj h
    · exact s.setup_serveNonCommit _ _
    · rfl
  case forcedReportService =>
    unfold execForcedReportService at h
    split at h <;> obtain rfl := next_inj h
    · rw [State.setup_finish, State.setup_reportRecordless, State.setup_takeForcedReport]
    · rfl
  case gateEventService =>
    unfold execGateEventService at h
    split at h <;> obtain rfl := next_inj h
    · rw [State.setup_finish, State.setup_reportRecordless]
      rfl
    · rfl
  case backfillStep =>
    unfold execBackfillStep at h
    split at h <;> obtain rfl := next_inj h <;> rfl
  case transferBegin n => obtain rfl := next_inj h; rfl
  case transferEnd n bits => obtain rfl := next_inj h; rfl
  case presentCode =>
    unfold execPresentCode at h
    split at h <;> obtain rfl := next_inj h
    · exact s.setup_present _ _
    · rfl
  case presentCard =>
    unfold execPresentCard at h
    split at h <;> obtain rfl := next_inj h
    · exact s.setup_present _ _
    · rfl
  case cancel =>
    unfold execCancel at h
    split at h <;> obtain rfl := next_inj h
    · exact s.setup_cancelHold _
    · rfl
  case poll =>
    unfold execPoll at h
    split at h <;> obtain rfl := next_inj h <;> rfl
  case uplinkFrameArrival =>
    unfold execUplinkFrameArrival at h
    split at h <;> obtain rfl := next_inj h
    · rfl
    · exact s.setup_arrive
  case interByteGap =>
    unfold execInterByteGap at h
    split at h <;> obtain rfl := next_inj h <;> rfl
  case replySent => exact execReplySent_setup h
  case characterReceived ch =>
    unfold execCharacterReceived at h
    split at h <;> obtain rfl := next_inj h
    · rfl
    · exact s.setup_arrive
  case evacPinChange level =>
    unfold execEvacPinChange at h
    dsimp only at h
    split at h <;> obtain rfl := next_inj h
    · exact State.setup_followPin { s with evacPin := level } level
    · rfl

end

end Sys2Proof.Machine

open Sys2Proof Sys2Proof.Machine

/-- Settles O19: each command writes at most the one setting that is its own. -/
theorem settingsHaveOneWriter : Obligations.SettingsHaveOneWriter := by
  intro c s t hpower hexec
  have h := (exec_written hpower hexec).oneWriter
  refine ⟨h.classes, fun hc z => ?_, h.identity, h.linkTimeout, h.watermark, fun hc n => ?_,
    fun hc => ⟨h.valid hc, h.clock hc⟩, h.staysValid⟩
  · rw [← State.setup_capacities_get, ← State.setup_capacities_get, h.capacities hc]
  · have hlane := congrArg (·.get n) (h.lanes hc)
    simp only [State.setup_lanes_get, Prod.mk.injEq] at hlane
    obtain ⟨hrole, hpreload⟩ := hlane
    exact ⟨hpreload, hrole⟩
end

section
/-! The tick: the clock, the arm timers, the link monitor and the EVAC filter (R51, R125, R172, R177, R178). -/

namespace Sys2Proof.Machine

/-- The clock counts 1/256 s and wraps at the top (R51). -/
theorem VenueTime.tick_count (w : VenueTime) :
    (VenueTime.tick w).seconds.toNat * 256 + (VenueTime.tick w).fraction.toNat
      = (w.seconds.toNat * 256 + w.fraction.toNat + 1) % 1099511627776 := by
  have hseconds := w.seconds.isLt
  have hfraction := w.fraction.isLt
  unfold VenueTime.tick
  split
  · rename_i hlast
    have hlast : w.fraction.toNat = 255 := by rw [hlast]; rfl
    simp only [BitVec.toNat_add, BitVec.ofNat_eq_ofNat, BitVec.toNat_ofNat]
    omega
  · rename_i hnot
    have hnot : w.fraction.toNat ≠ 255 := fun h => hnot (BitVec.eq_of_toNat_eq h)
    simp only [BitVec.toNat_add, BitVec.ofNat_eq_ofNat, BitVec.toNat_ofNat]
    omega

/-- With nothing due, a tick counts the monitor up while ONLINE and finds its timeout, and samples the EVAC pin
(R172, R177, R178). -/
theorem GateController.tick_eq (g : GateController) (pin : Bool) (htimeout : g.timeoutDue = false)
    (hevac : g.evacDue = false) :
    g.tickMonitor.sampleEvac pin =
      { g with
        previousSample := pin
        evacDue := pin != g.accepted && g.previousSample != g.accepted
        monitorCount := if g.link = .online then g.monitorCount + 1 else g.monitorCount
        timeoutDue := decide (g.link = .online ∧ g.linkTimeout * 256 ≤ g.monitorCount + 1) } := by
  cases hlink : g.link with
  | offline =>
    simp [GateController.sampleEvac, GateController.tickMonitor, hlink, htimeout, hevac]
  | online =>
    simp only [GateController.sampleEvac, GateController.tickMonitor, hlink, htimeout, hevac, Config.ticksPerSecond,
      Bool.false_or, true_and, if_true]
    congr

end Sys2Proof.Machine

open Sys2Proof Sys2Proof.Machine

/-- Settles O30: under RST the tick is the clock's alone; with nothing due, what it settles first changes nothing, and
each block counts once. -/
theorem tickCountsEverything : Obligations.TickCountsEverything := by
  refine ⟨fun s hrst => ⟨s.tickClock, ?_, rfl, rfl, VenueTime.tick_count s.clock.time⟩, fun s hrst hnothing => ?_⟩
  · simp only [exec, execVenueClockTick, hrst, if_true]
  · obtain ⟨-, htimers, htimeout, hevac⟩ := hnothing
    have hsettled : s.tickClock.settleDue = s.tickClock := State.settleDue_of_nothing _ htimers htimeout hevac
    refine ⟨s.tickClock.countTick, ?_, rfl, rfl, VenueTime.tick_count s.clock.time, fun n => get_map _ _ n,
      s.gc.tick_eq s.evacPin htimeout hevac⟩
    simp only [exec, execVenueClockTick, hrst, Bool.false_eq_true, if_false, hsettled]
end

section
/-! The commit of an exit hold: the record's side, the zone's and the lane's (R55, R96, R97, R99, R100, R159). -/

namespace Sys2Proof.Machine

section
variable {s : State} {n : Lane} {slot : Nat} {r : Record} {h : Hold}

/-- A commit completion in service ends the hold of the record that its lane holds (R61, R94, R96). -/
theorem exec_commitCompletion_of_held {capture : VenueTime} (htakes : s.Takes (.completion n))
    (hcompletion : (s.lanes.get n).completion = some (.commit capture)) (hheld : s.heldAt n = some (slot, r, h)) :
    exec .commitCompletion s = .next ((s.endCommit slot r h capture).closeHold n .committed r.ticket).finish := by
  have hserving := (State.serving_eq_some s _).mpr htakes
  simp only [exec, execCommitCompletion, State.completionInService, hserving, hcompletion, Option.map_some,
    State.serveCommit, hheld]

/-- The lane's side of a hold's end, over a state that the record's side left (R96). -/
theorem State.HoldEnds.closeHold_finish {u : State} (hends : s.HoldEnds slot r h u) (howEnded : HoldEnd)
    (ticket : Ticket) :
    (u.closeHold n howEnded ticket).finish =
      { s with
        table := u.table, pendingCount := u.pendingCount, zones := u.zones
        contexts := s.contexts.set n ((s.contexts.get n).ended howEnded ticket)
        lanes := s.lanes.set n (s.lanes.get n).released
        journal := u.journal, nextSeq := u.nextSeq, attn := u.attn, chosen := none } := by
  rw [hends.frame, State.closeHold, LaneUnit.endHold_eq_released]
  rfl

/-- The commit of an exit hold writes the record, counts the person out and reports an EXIT (R97, R99). -/
theorem State.endCommit_exit (s : State) (slot : Nat) (r : Record) (capture : VenueTime)
    (hdirection : h.direction = .OUT) :
    s.endCommit slot r h capture =
      ((s.setRecord slot (r.afterExitCommit h (s.classOf r) capture)).modifyZone (s.zoneOf r)
        ZoneRecord.countOut).report slot (r.afterExitCommit h (s.classOf r) capture) .exit (.lane h.lane) capture
        (s.zoneOf r) := by
  simp only [State.endCommit, hdirection, State.zoneOf]

/-- The zone's occupancy falls by 1, saturating at 0 (R47, R99). -/
theorem State.endCommit_exit_zones (s : State) (slot : Nat) (r : Record) (capture : VenueTime)
    (hdirection : h.direction = .OUT) :
    (s.endCommit slot r h capture).zones = s.zones.set (s.zoneOf r)
      { s.zones.get (s.zoneOf r) with
        occupancy := BitVec.ofNat 16 ((s.zones.get (s.zoneOf r)).occupancy.toNat - 1) } := by
  rw [s.endCommit_exit slot r capture hdirection, State.report_frame _ _ _ _ _ _ _ _ rfl, ← ZoneRecord.countOut_eq]
  rfl

end

end Sys2Proof.Machine

open Sys2Proof Sys2Proof.Machine

/-- Settles O34: the record's side of the end is a report over the record written and the person counted out, and the
lane's side changes nothing of it. -/
theorem exitCommitPassesOut : Obligations.ExitCommitPassesOut := by
  rintro n capture ref r h s _ htakes hcompletion href hget hstate hdirection rfl
  have hheld := (State.heldAt_eq_some s n ref.slot r h).mpr ⟨ref, href, rfl, hget, hstate⟩
  have hclosed := (s.endCommit_holdEnds ref.slot r h capture).closeHold_finish (n := n) .committed r.ticket
  have hexec := exec_commitCompletion_of_held htakes hcompletion hheld
  have hwritten := s.endCommit_exit ref.slot r capture hdirection
  obtain ⟨hrecord, hothers, hreports⟩ := State.report_spec s
    ((s.setRecord ref.slot (r.afterExitCommit h (s.classOf r) capture)).modifyZone (s.zoneOf r) ZoneRecord.countOut)
    ref.slot (r.afterExitCommit h (s.classOf r) capture) .exit (.lane h.lane) capture (s.zoneOf r)
    (by simp [hget]) ⟨rfl, rfl, rfl⟩
  have hzones := s.endCommit_exit_zones ref.slot r capture hdirection
  rw [← hwritten] at hrecord hothers hreports
  rw [hclosed] at hexec
  generalize s.endCommit ref.slot r h capture = u at hexec hrecord hothers hreports hzones
  refine ⟨_, _, hexec, hrecord, ?_, fun k hk => (hothers k hk).trans ?_, rfl, hreports⟩
  · rw [hzones]
    rfl
  · simp [Ne.symm hk]
end

section
/-! Checks 9 to 17 of a found record, each as its own test and all in their order (R55 to R58, R77 to R80). -/

namespace Sys2Proof.Machine

/-- A check stands before the rest of its list. -/
theorem findSome?_ite_cons {α : Type} (q : Prop) [Decidable q] (v : α) (l : List (Option α)) :
    ((if q then some v else none) :: l).findSome? id = if q then some v else l.findSome? id := by
  split <;> rfl

theorem checkBarred_eq (c : ClassRecord) : checkBarred c = if c.limit = 0 then some .classBarred else none :=
  if_congr Fin.val_eq_zero_iff rfl rfl

theorem checkLaneMask_eq (c : ClassRecord) (n : Lane) :
    checkLaneMask c n = if c.laneMask.getLsbD n.val = false then some .wrongLane else none := by
  unfold checkLaneMask
  cases c.laneMask.getLsbD n.val <;> rfl

theorem checkCardRequired_eq (c : ClassRecord) (r : Record) (form : Form) :
    checkCardRequired c r form =
      if form = .code ∧ (c.cardOnly = true ∨ r.binding ≠ none) then some .cardRequired else none := by
  cases form <;> simp [checkCardRequired]

theorem checkCardMatch_eq (r : Record) (cred : Credential) :
    checkCardMatch r cred =
      if cred.form = .card ∧ r.binding ≠ none ∧ r.binding ≠ cred.uid then some .cardMismatch else none := by
  unfold checkCardMatch
  cases cred.form <;> simp

theorem checkEntries_eq (c : ClassRecord) (r : Record) :
    checkEntries c r = if c.limit.val ≤ r.entries.val then some .spent else none :=
  (ite_not ..).symm.trans (if_congr not_lt rfl rfl)

theorem checkHeadroom_eq (z : ZoneRecord) :
    checkHeadroom z = if z.capacity.toNat ≤ z.occupancy.toNat + z.reserved then some .zoneFull else none :=
  (ite_not ..).symm.trans (if_congr Nat.not_lt rfl rfl)

/-- The window is three tests in one place (R56). -/
theorem findSome?_checkWindow_cons (clock : Clock) (c : ClassRecord) (l : List (Option Verdict)) :
    (checkWindow clock c :: l).findSome? id =
      if c.windowless = false ∧ clock.valid = false then some .noTime
      else if c.windowless = false ∧ clock.time.seconds.toNat < c.windowOpen.toNat then some .tooEarly
      else if c.windowless = false ∧ c.windowClose.toNat ≤ clock.time.seconds.toNat then some .tooLate
      else l.findSome? id := by
  unfold checkWindow
  cases c.windowless with
  | true => simp
  | false =>
    simp only [Bool.false_eq_true, if_false, true_and]
    split
    · rfl
    · split
      · rfl
      · split <;> rfl

/-- "The test passes when elapsed is equal to or greater than the cooldown", from OUTSIDE alone (R57). -/
theorem checkCooldown_eq (clock : Clock) (c : ClassRecord) (r : Record) :
    checkCooldown clock c r =
      if r.state = .outside ∧ (∃ lp, r.lastPassage = some lp ∧
          (if clock.valid then clock.time.seconds.toNat - lp.time.seconds.toNat else 0) < c.cooldown)
      then some .cooldown else none := by
  unfold checkCooldown
  split
  · rename_i lp hstate hpassage
    simp only [hstate, hpassage, true_and, Option.some_inj, exists_eq_left', ← elapsedSince.eq_def]
    exact (ite_not ..).symm.trans (if_congr Nat.not_le rfl rfl)
  · rename_i hnot
    refine (if_neg ?_).symm
    rintro ⟨hstate, lp, hpassage, -⟩
    exact hnot lp hstate hpassage

section
variable {s : State} {n : Lane} {cred : Credential} {r : Record}

/-- A state that check 9 refuses is the verdict (R77). -/
theorem checksOfRecord_of_state {v : Verdict} (h : checkState r cred.side = some v) :
    checksOfRecord s n cred r = some v := by
  unfold checksOfRecord
  dsimp only
  split <;> rename_i hside <;> rw [hside] at h <;> rw [hside, h] <;> rfl

/-- Past check 9, an exit has the checks that are not marked "entry" (R73, R79). -/
theorem checksOfRecord_exit (hside : cred.side = .OUT) (hstate : checkState r .OUT = none) :
    checksOfRecord s n cred r =
      [checkBarred (s.classOf r), checkLaneMask (s.classOf r) n, checkCardMatch r cred].findSome? id := by
  unfold checksOfRecord
  dsimp only
  rw [hside, hstate]
  rfl

/-- Past check 9, an entry has checks 10 to 17 (R73). -/
theorem checksOfRecord_entry (hside : cred.side = .IN) (hstate : checkState r .IN = none) :
    checksOfRecord s n cred r =
      [checkBarred (s.classOf r), checkLaneMask (s.classOf r) n, checkCardRequired (s.classOf r) r cred.form,
        checkCardMatch r cred, checkLink s (s.classOf r), checkWindow s.clock (s.classOf r),
        checkEntries (s.classOf r) r, checkCooldown s.clock (s.classOf r) r,
        checkHeadroom (s.zones.get (s.classOf r).zone)].findSome? id := by
  unfold checksOfRecord
  dsimp only
  rw [hside, hstate]
  rfl

end

end Sys2Proof.Machine

open Sys2Proof Sys2Proof.Machine

/-- Settles O39: check 9 refuses by state and side; what it passes has the other checks in their order. -/
theorem recordChecksInOrder : Obligations.RecordChecksInOrder := by
  rintro s n cred r _ _ _ rfl rfl rfl
  cases hside : cred.side with
  | OUT =>
    cases hstate : r.state with
    | inside =>
      rw [checksOfRecord_exit hside (by rw [checkState.eq_def, hstate])]
      simp only [checkBarred_eq, checkLaneMask_eq, checkCardMatch_eq, findSome?_ite_cons, List.findSome?_nil]
      rfl
    | _ => exact checksOfRecord_of_state (by rw [checkState.eq_def, hstate, hside])
  | IN =>
    cases hstate : r.state with
    | valid | outside =>
      rw [checksOfRecord_entry hside (by rw [checkState.eq_def, hstate])]
      simp only [checkBarred_eq, checkLaneMask_eq, checkCardRequired_eq, checkCardMatch_eq, checkLink,
        checkEntries_eq, checkCooldown_eq, checkHeadroom_eq, findSome?_ite_cons, findSome?_checkWindow_cons,
        List.findSome?_nil, hstate]
      rfl
    | _ => exact checksOfRecord_of_state (by rw [checkState.eq_def, hstate, hside])
end

section
/-! SET_CLASS and SET_ZONE: what a payload carries, and what is written of it (R43, R49). -/

namespace Sys2Proof.Machine

theorem field16_toNat (p : List Byte) (i : Nat) :
    (field16 p i).toNat = 256 * (byteAt p i).toNat + (byteAt p (i + 1)).toNat := by
  have hhigh := (byteAt p i).isLt
  have hlow := (byteAt p (i + 1)).isLt
  rw [field16, BitVec.toNat_ofNat]
  omega

/-- A SET_CLASS payload is refused for each number, mask and flags byte out of range (R43). -/
theorem classRecordOf?_eq_none {p : List Byte}
    (h : 31 < (byteAt p 0).toNat ∨ 15 < (byteAt p 9).toNat ∨ 15 < (byteAt p 12).toNat ∨ 63 < (byteAt p 13).toNat ∨
      15 < (byteAt p 14).toNat) : classRecordOf? p = none := by
  unfold classRecordOf?
  split
  · rename_i c limit zone hc hlimit hzone
    rw [classOf?_eq_some] at hc
    rw [upTo15?_eq_some] at hlimit hzone
    exact if_neg (by omega)
  · rfl

/-- The class record of the values that a SET_CLASS payload carries, the cooldown clamped (R43). -/
def carriedClass (p : List Byte) (limit : Fin 16) (zone : ZoneNo) : ClassRecord :=
  { windowOpen := field32 p 1, windowClose := field32 p 5
    windowless := bitAt (byteAt p 14) 0, limit := limit
    cooldown := min (256 * (byteAt p 10).toNat + (byteAt p 11).toNat) 3600
    zone := zone, laneMask := (byteAt p 13).setWidth 6, cardOnly := bitAt (byteAt p 14) 1
    bind := bitAt (byteAt p 14) 2, offlineOk := bitAt (byteAt p 14) 3 }

/-- The class number and the class record that a SET_CLASS payload in range carries (R43). -/
theorem classRecordOf?_eq_some {p : List Byte} {c : ClassNo} {limit : Fin 16} {zone : ZoneNo}
    (hc : (byteAt p 0).toNat = c.val) (hlimit : (byteAt p 9).toNat = limit.val)
    (hzone : (byteAt p 12).toNat = zone.val) (hmask : (byteAt p 13).toNat ≤ 63) (hflags : (byteAt p 14).toNat ≤ 15) :
    classRecordOf? p = some (c, carriedClass p limit zone) := by
  have hrange : (byteAt p 13).toNat < 64 ∧ (byteAt p 14).toNat < 16 := by omega
  simp only [classRecordOf?, classOf?_eq_some.mpr hc, upTo15?_eq_some.mpr hlimit, upTo15?_eq_some.mpr hzone, hrange,
    and_self, if_true, field16_toNat, Config.maxCooldown, carriedClass]

theorem badPresence_setZone {p : List Byte} (h : (byteAt p 1).toNat < 4) : badPresence .setZone p = false :=
  decide_eq_false (Nat.not_le.mpr h)

/-- A zone record with the fields that a SET_ZONE payload carries (R49). -/
def carriedZone (p : List Byte) (old : ZoneRecord) : ZoneRecord :=
  { capacity := if bitAt (byteAt p 1) 0 then field16 p 2 else old.capacity
    occupancy := if bitAt (byteAt p 1) 1 then field16 p 4 else old.occupancy
    reserved := old.reserved }

theorem setZoneService_of_zone (s : State) {p : List Byte} {z : ZoneNo} (hz : (byteAt p 0).toNat = z.val) :
    setZoneService s p =
      (s.modifyZone z (carriedZone p), .ok (zonePayload z (carriedZone p (s.zones.get z)))) := by
  rw [setZoneService, upTo15?_eq_some.mpr hz]
  rfl

end Sys2Proof.Machine

open Sys2Proof Sys2Proof.Machine

/-- Settles O52: a payload out of range is refused before anything is written; one in range names the whole record. -/
theorem classesAndZonesAreWritten : Obligations.ClassesAndZonesAreWritten := by
  refine ⟨fun s p htakes hlen => ?_, fun s p htakes hlen hpresence => ?_⟩
  · have hkind : UplinkRequest.kind ⟨0x20, p⟩ = .setClass := UplinkRequest.kind_of_catalogue rfl hlen rfl
    refine ⟨fun hrange => ?_, fun c limit zone hc hlimit hzone hmask hflags =>
      ⟨carriedClass p limit zone, rfl, fun i hi => ?_, ?_⟩⟩
    · have hserve : setClassService s p = (s, .refuse .badArg) := by
        rw [setClassService, classRecordOf?_eq_none hrange]
      exact congrArg _ (State.serveUplink_of_takes htakes hkind hserve)
    · simp [carriedClass, hi, bitAt]
    · have hserve : setClassService s p =
          ({ s with classes := s.classes.set c (carriedClass p limit zone) },
            .ok (classPayload c (carriedClass p limit zone))) := by
        rw [setClassService, classRecordOf?_eq_some hc hlimit hzone hmask hflags]
      exact congrArg _ (State.serveUplink_of_takes htakes hkind hserve)
  · have hkind : UplinkRequest.kind ⟨0x21, p⟩ = .setZone :=
      UplinkRequest.kind_of_catalogue rfl hlen (badPresence_setZone hpresence)
    refine ⟨fun hrange => ?_, ?_⟩
    · have hserve : setZoneService s p = (s, .refuse .badArg) := by
        rw [setZoneService, upTo15?_eq_none.mpr hrange]
      exact congrArg _ (State.serveUplink_of_takes htakes hkind hserve)
    · rintro z _ _ hz rfl rfl
      exact congrArg _ (State.serveUplink_of_takes htakes hkind (setZoneService_of_zone s hz))
end

section
/-! The chosen item and the reply buffer over every step, from the conditions on the services alone (R60, R188, R199,
R201, R205): what a lane unit has raised stays raised in every lane state, safe or not. -/

namespace Sys2Proof.Machine

/-! ### A lane unit's step -/

namespace LaneUnit
variable (lu : LaneUnit)

/-- A forced passage raises the count of forced reports, which saturates (R123). -/
theorem forcedPassage_keepsRaised (e : Side) : lu.KeepsRaised (lu.move e).forcedPassage :=
  ⟨id, fun _ => lt_min (Nat.succ_pos _) (by decide)⟩

theorem commitPassage_keepsRaised (d e : Side) (now : VenueTime) :
    lu.KeepsRaised ((lu.move e).commitPassage d now) :=
  ⟨fun _ => raise_completion_ne_none _ (.commit now), id⟩

theorem stepArmed_keepsRaised (d e : Side) (now : VenueTime) : lu.KeepsRaised (lu.stepArmed d e now) := by
  have hcommit := lu.commitPassage_keepsRaised d e now
  have hforced := lu.forcedPassage_keepsRaised e
  unfold stepArmed
  dsimp only
  split
  · split
    · split
      · exact hcommit
      · exact ⟨id, id⟩
    · exact ⟨id, id⟩
  · split
    · exact hforced
    · exact ⟨id, id⟩

theorem stepTurning_keepsRaised (d e : Side) (now : VenueTime) : lu.KeepsRaised (lu.stepTurning d e now) := by
  have hcommit := lu.commitPassage_keepsRaised d e now
  unfold stepTurning
  dsimp only
  split
  · exact hcommit
  · split
    · split
      · exact .of_raise rfl
      · exact ⟨id, id⟩
    · exact ⟨id, id⟩

/-- A step ends no completion and takes no forced report (R118 to R121). -/
theorem step_keepsRaised (e : Side) (now : VenueTime) : lu.KeepsRaised (lu.step e now) := by
  have hmoved : lu.KeepsRaised (lu.move e) := ⟨id, id⟩
  have hforced := lu.forcedPassage_keepsRaised e
  have hfree : lu.KeepsRaised (lu.move e).freePassage := ⟨id, id⟩
  unfold step
  dsimp only
  split
  case h_1 => split <;> assumption
  case h_2 =>
    split
    · split <;> assumption
    · exact hmoved
  case h_3 => exact lu.stepArmed_keepsRaised _ e now
  case h_4 => exact lu.stepTurning_keepsRaised _ e now
  case h_5 => split <;> assumption
  case h_6 => exact hmoved

theorem takePair_keepsRaised (pair : EncoderPair) (named : Bool) (now : VenueTime) :
    lu.KeepsRaised (lu.takePair pair named now) := by
  unfold takePair
  split
  · rename_i e _
    obtain ⟨hcompletion, hforced⟩ := lu.step_keepsRaised (lu.applyReversed e) now
    have hstepped : lu.KeepsRaised { lu.step (lu.applyReversed e) now with reference := pair } :=
      ⟨hcompletion, hforced⟩
    exact hstepped.trans (settlePreload_keepsRaised _ named)
  · exact ⟨id, id⟩

end LaneUnit

/-! ### Every effect -/

section
variable {s t : State}

theorem GateController.hearFrame_events {g : GateController} (h : g.events ≠ []) : g.hearFrame.events ≠ [] := by
  rw [GateController.hearFrame_eq]
  dsimp only
  split
  · exact eventsAfter_ne_nil h
  · exact h

/-- A request that arrives is WAITING or answered BUSY, and the link monitor drops no gate event (R175, R199). -/
theorem State.Serves.hear (h : s.Serves) (rx : Receiver) (r : UplinkRequest) :
    State.Serves
      { s with gc := s.gc.hearFrame, uplink := UplinkPort.takeRequest { s.uplink with receiver := rx } r } := by
  obtain ⟨hin, hreplying, hbusy, hanswered⟩ :=
    UplinkPort.takeRequest_keeps { s.uplink with receiver := rx } r h.busy
  exact h.keep rfl (fun item ho => ho.run (fun _ => .refl _) GateController.hearFrame_events rfl rfl) (fun _ => rfl)
    hin hreplying hbusy hanswered rfl rfl

/-- A BUSY reply sent leaves the slot and its own reply alone (R201). -/
theorem State.Serves.busySent (h : s.Serves) {r : UplinkReply} {rest : List UplinkReply}
    (hreplies : s.uplink.replies = r :: rest) (hbusy : r.status = .busy) :
    State.Serves { s with uplink := { s.uplink with replies := rest } } := by
  have hfewer : (rest.filter fun q => q.status = .busy).length
      ≤ (s.uplink.replies.filter fun q => q.status = .busy).length := by
    rw [hreplies]
    exact ((List.sublist_cons_self r rest).filter _).length_le
  have hanswered : rest.filter (fun q => q.status ≠ .busy) = s.uplink.replies.filter fun q => q.status ≠ .busy := by
    simp [hreplies, hbusy]
  exact h.keep rfl (fun item ho => ho.run (fun _ => .refl _) id rfl rfl) (fun _ => rfl) rfl rfl
    (hfewer.trans h.busy) hanswered rfl rfl

/-- Lane units and Gate Controller that end nothing raised, and any clock, pin or receiver, leave the services. -/
theorem State.Serves.blocksRun (h : s.Serves) (hraised : ∀ n : Lane, (s.lanes.get n).KeepsRaised (t.lanes.get n))
    (hevents : s.gc.events ≠ [] → t.gc.events ≠ [])
    (hframe : t = { s with
      clock := t.clock, commands := t.commands, lanes := t.lanes, gc := t.gc
      uplink := { s.uplink with receiver := t.uplink.receiver }
      evacPin := t.evacPin, rstAsserted := t.rstAsserted }) : t.Serves := by
  refine h.run hraised hevents ?_ ?_ ?_ ?_ ?_ ?_ ?_ ?_ <;> rw [hframe]

/-- Every effect keeps the services and the reply buffer, whatever the lane units' states. -/
theorem State.Effect.keepsServes (he : s.Effect t) (h : s.Serves) : t.Serves := by
  cases he with
  | countTick =>
    have hevents : s.gc.tickMonitor.events = s.gc.events := by rw [s.gc.tickMonitor_frame]
    exact h.blocksRun (s.keepsRaised_mapLanes fun lu => ⟨id, id⟩) (fun hsome => hevents.trans_ne hsome) rfl
  | expiry n => exact h.blocksRun (s.keepsRaised_setLane n (LaneUnit.takeExpiry_keepsRaised _)) id rfl
  | loseLink => exact h.blocksRun (fun _ => .refl _) eventsAfter_ne_nil rfl
  | assertEvac => exact h.blocksRun (s.keepsRaised_mapLanes LaneUnit.takeFree_keepsRaised) eventsAfter_ne_nil rfl
  | releaseEvac => exact h.blocksRun (s.keepsRaised_mapLanes LaneUnit.takeUnfree_keepsRaised) eventsAfter_ne_nil rfl
  | encoder n pair => exact h.blocksRun (s.keepsRaised_setLane n (LaneUnit.takePair_keepsRaised _ pair _ _)) id rfl
  | command c rest =>
    rw [State.takeLaneCommand_frame]
    exact h.blocksRun (State.keepsRaised_takeLaneCommand { s with commands := rest } c) id rfl
  | settleCommands =>
    rw [State.settleCommands_frame]
    exact h.blocksRun s.keepsRaised_settleCommands id rfl
  | holdReset => exact h.blocksRun (s.keepsRaised_mapLanes fun lu => ⟨id, id⟩) id rfl
  | pinHeld level => exact h.blocksRun (s.keepsRaised_mapLanes fun lu => ⟨id, id⟩) id rfl
  | choose item hmay _ hnext => exact h.choose hmay hnext
  | hear rx r => exact h.hear rx r
  | busySent r rest hreplies hbusy => exact h.busySent hreplies hbusy
  | replySent r rest _ hreplies hbusy => exact h.replySent hreplies hbusy
  | transferBegin n => exact h.setPort n (congrArg _ (Port.beginTransfer_request _ _))
  | transferEnd n bits => exact h.setPort n (Port.endTransfer_inService _ _ bits)
  | warmReset pins => exact .warmReset s pins
  | endHold n slot r x howEnded u hserving _ _ hends =>
    rw [hends.frame]
    exact h.over hserving (fun _ => Service.noConfusion) Service.noConfusion rfl rfl rfl rfl rfl
  | forcedReport n hserving =>
    rw [State.reportRecordless_frame]
    exact h.over hserving (fun _ => Service.noConfusion) Service.noConfusion rfl rfl rfl rfl rfl
  | gateEvent e rest hserving =>
    rw [State.reportRecordless_frame]
    exact h.over hserving (fun _ => Service.noConfusion) Service.noConfusion rfl rfl rfl rfl rfl
  | endLaneHold n hserving | backfill slot r hserving | noBackfill hserving =>
    exact h.over hserving (fun _ => Service.noConfusion) Service.noConfusion rfl rfl rfl rfl rfl
  | lane n q u reply hserving _ hwork => exact h.finishLaneRequest hserving hwork reply
  | uplink _ ht =>
    obtain ⟨r, u, a, hserving, hslot, hwork, hstatus⟩ := ht
    obtain ⟨hports, hlink, hdue⟩ := hwork.link
    exact h.finishUplink hserving hslot hports hlink hdue hstatus
  | _ => exact h.blocksRun (fun _ => .refl _) id rfl

/-- LOAD_TICKET, DROP_TICKET and CLEAR_TABLE are answered as every uplink request is. -/
theorem State.Serves.tableWork (h : s.Serves) (ht : s.Answered s.TableWork t) : t.Serves := by
  obtain ⟨r, u, a, hserving, hslot, hwork, hstatus⟩ := ht
  have hframe := hwork.frame
  exact h.finishUplink hserving hslot (by rw [hframe]) (by rw [hframe]) (by rw [hframe]) hstatus

/-- The queue is no part of the conditions on the services. -/
theorem State.Serves.withPending (h : s.Serves) (l : List Instr) : State.Serves { s with pending := l } :=
  h.run (fun _ => .refl _) id rfl rfl rfl rfl rfl rfl rfl rfl

end

end Sys2Proof.Machine

open Sys2Proof Sys2Proof.Machine

/-- Settles O17: every effect, the three table requests and a power-on keep the conditions on the services and the
reply buffer, which need no condition on the lane units. -/
theorem stepKeepsServiceAndSlot : Obligations.StepKeepsServiceAndSlot := by
  intro s t hservice huplink hstep
  refine t.serves_iff.mp (step_induction (P := State.Serves) (fun _ l h => h.withPending l) (fun c s t h hexec => ?_)
    (s.serves_iff.mpr ⟨hservice, huplink⟩) hstep)
  exact exec_induction (fun _ _ h he => he.keepsServes h) (fun _ _ h ht => h.tableWork ht)
    (fun s pins _ => ((State.powerOn_inv pins).withPending s.pending).serves) h hexec
end

section
/-! The front of the queue (R59, R60), checks 1 to 8 of a presentation with what a refusal and a repeat do (R74 to R77,
R83 to R86), and the POLL and the CANCEL that end no hold (R87, R88). -/

namespace Sys2Proof.Machine

/-! ### Checks 1 to 6 -/

/-- A side that the role bars is refused, at a lane that is not OFF (R74). -/
theorem checkSide_of_barred {role : Role} {side : Side}
    (h : (role = .entry ∧ side = .OUT) ∨ ((role = .exit ∨ role = .freeExit) ∧ side = .IN)) :
    checkRole role = none ∧ checkSide role side = some .wrongSide := by
  obtain ⟨rfl, rfl⟩ | ⟨rfl | rfl, rfl⟩ := h <;> exact ⟨rfl, rfl⟩

/-- A side that the role serves passes checks 2 and 3 (R74). -/
theorem checkSide_of_served {role : Role} {side : Side}
    (h : role = .dual ∨ (role = .entry ∧ side = .IN) ∨ ((role = .exit ∨ role = .freeExit) ∧ side = .OUT)) :
    checkRole role = none ∧ checkSide role side = none := by
  obtain rfl | ⟨rfl, rfl⟩ | ⟨rfl | rfl, rfl⟩ := h
  · cases side <;> exact ⟨rfl, rfl⟩
  all_goals exact ⟨rfl, rfl⟩

section
variable {s : State} {n : Lane} {c : Credential} {v : Verdict}

theorem checksOfLane_of_gate (h : checkGate s = some v) : checksOfLane s n c = some v := by
  simp [checksOfLane, h]

theorem checksOfLane_of_role (hgate : checkGate s = none) (h : checkRole (s.lanes.get n).role = some v) :
    checksOfLane s n c = some v := by
  simp [checksOfLane, hgate, h]

theorem checksOfLane_of_side (hgate : checkGate s = none) (hrole : checkRole (s.lanes.get n).role = none)
    (h : checkSide (s.lanes.get n).role c.side = some v) : checksOfLane s n c = some v := by
  simp [checksOfLane, hgate, hrole, h]

/-- Past checks 1 to 3 the Credential Normalizer's outcome decides (R75). -/
theorem checksOfLane_of_credential (hgate : checkGate s = none) (hrole : checkRole (s.lanes.get n).role = none)
    (hside : checkSide (s.lanes.get n).role c.side = none) : checksOfLane s n c = checkCredential c := by
  cases hcredential : checkCredential c <;> simp [checksOfLane, hgate, hrole, hside, hcredential]

/-! ### The decision -/

/-- The first of checks 1 to 6 that does not pass is the verdict (R73). -/
theorem State.decision_of_laneCheck (h : checksOfLane s n c = some v) : s.decision n c = .refuse v := by
  rw [State.decision, h]

/-- At a lane with a hold, check 7 decides: a repeat of the held ticket in its direction, or LANE_OCCUPIED (R76). -/
theorem State.decision_of_held {t : Ticket} {ref : HoldRef} {slot : Nat} {r : Record} {h : Hold}
    (hchecks : checksOfLane s n c = none) (hticket : c.ticket = some t) (href : (s.contexts.get n).holdRef = some ref)
    (hheld : s.heldAt n = some (slot, r, h)) :
    s.decision n c = if t = ref.ticket ∧ c.side = h.direction then .repeatGrant r h else .refuse .laneOccupied := by
  simp only [State.decision, hchecks, hticket, href, hheld]

/-- A ticket number that the table does not hold is UNKNOWN (R77). -/
theorem State.decision_of_unknown {t : Ticket} (hchecks : checksOfLane s n c = none) (hticket : c.ticket = some t)
    (href : (s.contexts.get n).holdRef = none) (hlookup : s.table.lookup t = none) :
    s.decision n c = .refuse .unknown := by
  simp only [State.decision, hchecks, hticket, href, hlookup]

/-- A record found at a lane without a hold has checks 9 to 17 (R73, R77). -/
theorem State.decision_of_found {t : Ticket} {slot : Nat} {r : Record} (hchecks : checksOfLane s n c = none)
    (hticket : c.ticket = some t) (href : (s.contexts.get n).holdRef = none)
    (hlookup : s.table.lookup t = some (slot, r)) :
    s.decision n c =
      match checksOfRecord s n c r with
      | some v => .refuseRecord v r
      | none => .grant slot r := by
  simp only [State.decision, hchecks, hticket, href, hlookup] <;> rfl

/-! ### Refusals and repeats -/

/-- The lane status block does not show the tallies (R86). -/
theorem State.statusBlock_countRefusal (s : State) (n : Lane) : (s.countRefusal n).statusBlock n = s.statusBlock n := by
  have hstate : ((s.countRefusal n).lanes.get n).state = (s.lanes.get n).state := by
    simp [State.countRefusal, LaneUnit.countRefusal]
  rw [State.statusBlock, hstate]
  rfl

/-- A refusal, of a record found or of none, counts and is answered (R83, R84). -/
theorem State.servePresentation_of_refusal {found : Option Record}
    (h : (s.decision n c = .refuse v ∧ found = none) ∨ ∃ r, s.decision n c = .refuseRecord v r ∧ found = some r) :
    s.servePresentation n c = (s.countRefusal n).repliedLane n (.verdict (s.refusalReply n c v found)) := by
  have hreply : (s.countRefusal n).refusalReply n c v found = s.refusalReply n c v found := by
    rw [State.refusalReply, State.statusBlock_countRefusal]
    rfl
  rw [← hreply, ← State.finishLaneRequest_eq_repliedLane]
  obtain ⟨hdecision, rfl⟩ | ⟨r, hdecision, rfl⟩ := h <;> rw [State.servePresentation, State.present, hdecision]

/-- A repeat changes nothing but what its reply does (R76, R85). -/
theorem State.servePresentation_of_repeat {r : Record} {h : Hold} (hdecision : s.decision n c = .repeatGrant r h) :
    s.servePresentation n c = s.repliedLane n (.verdict (s.grantReply n c true r h)) := by
  rw [← State.finishLaneRequest_eq_repliedLane, State.servePresentation, State.present, hdecision]

/-! ### POLL and CANCEL -/

/-- A lane's request that the Decision Engine is about to take is in service (R188). -/
theorem State.laneRequestInService_of_takes {q : LaneRequest} (h : s.TakesLane n q) :
    s.laneRequestInService = some (n, q) := by
  obtain ⟨hitem, hrequest⟩ := h
  exact (s.laneRequestInService_eq_some n q).mpr ⟨(s.serving_eq_some _).mpr hitem, hrequest⟩

theorem exec_cancel_of_takes (h : s.TakesLane n .cancel) :
    exec .cancel s = .next ((s.cancelHold n).1.repliedLane n
      (.cancel (s.cancelHold n).2 ((s.cancelHold n).1.statusBlock n))) := by
  simp only [exec, execCancel, State.laneRequestInService_of_takes h, State.finishLaneRequest_eq_repliedLane]

theorem State.heldAt_of_noRef (h : (s.contexts.get n).holdRef = none) : s.heldAt n = none := by
  rw [State.heldAt, h]

/-- CANCEL needs a hold and an ARMED lane (R88). -/
theorem State.cancelHold_of_noEffect (h : (s.contexts.get n).holdRef = none ∨ (s.lanes.get n).state ≠ .armed) :
    s.cancelHold n = (s, false) := by
  unfold State.cancelHold
  split
  · rename_i hheld harmed
    obtain href | hstate := h
    · rw [State.heldAt_of_noRef href] at hheld
      cases hheld
    · exact absurd harmed hstate
  · rfl

end

end Sys2Proof.Machine

open Sys2Proof Sys2Proof.Machine

/-- Settles O38: the checks one after another, each at a lane that has passed those before it. -/
theorem laneChecksInOrder : Obligations.LaneChecksInOrder := by
  rintro s n c _ rfl
  refine ⟨fun hevac => State.decision_of_laneCheck (checksOfLane_of_gate (by rw [checkGate, hevac])),
    fun hclosed => State.decision_of_laneCheck (checksOfLane_of_gate (by rw [checkGate, hclosed])), fun hopen => ?_⟩
  have hgate : checkGate s = none := by rw [checkGate, hopen]
  refine ⟨fun hoff => State.decision_of_laneCheck (checksOfLane_of_role hgate (by rw [hoff]; rfl)), fun hbarred => ?_,
    fun hserved => ?_⟩
  · obtain ⟨hrole, hside⟩ := checkSide_of_barred hbarred
    exact State.decision_of_laneCheck (checksOfLane_of_side hgate hrole hside)
  · obtain ⟨hrole, hside⟩ := checkSide_of_served hserved
    have hchecks := checksOfLane_of_credential hgate hrole hside
    have refused {v : Verdict} (hv : checkCredential c = some v) : s.decision n c = .refuse v :=
      State.decision_of_laneCheck (hchecks.trans hv)
    refine ⟨fun hmalformed => refused (by rw [checkCredential, hmalformed]),
      fun hevent => refused (by rw [checkCredential, hevent]), fun hdigit => refused (by rw [checkCredential, hdigit]),
      fun t hwell hticket => ?_⟩
    have hpassed : checksOfLane s n c = none := hchecks.trans (by rw [checkCredential, hwell])
    exact ⟨fun slot r h ref href hheld => State.decision_of_held hpassed hticket href hheld,
      fun href => ⟨State.decision_of_unknown hpassed hticket href,
        fun slot r => State.decision_of_found hpassed hticket href⟩⟩

/-- Settles O40: the refusal's one write is the tally, which the reply does not show, and a repeat has none. -/
theorem refusalsAndRepeatsChangeNoRecord : Obligations.RefusalsAndRepeatsChangeNoRecord := by
  intro c s n cred hpresents
  rw [hpresents.exec_eq]
  refine ⟨fun v found h => ?_, fun r h hdecision => ?_⟩
  · rw [State.servePresentation_of_refusal h]
    rfl
  · rw [State.servePresentation_of_repeat hdecision, State.grantReply]
    cases h.direction <;> rfl

/-- Settles O1: a step is the front command's meaning at the queue's rest. -/
theorem stepTakesTheFrontCommand : Obligations.StepTakesTheFrontCommand := by
  refine ⟨fun c rest s => rfl, fun s hempty => ?_⟩
  rw [step, hempty]

/-- Settles O36: the block of either reply is that of the state before the service. -/
theorem pollReportsAndClears : Obligations.PollReportsAndClears := by
  rintro n s _ rfl
  refine ⟨fun hpoll => ?_, fun hcancel hnone => ?_⟩
  · simp only [exec, execPoll, State.laneRequestInService_of_takes hpoll, State.finishLaneRequest_eq_repliedLane]
    rfl
  · rw [exec_cancel_of_takes hcancel, State.cancelHold_of_noEffect hnone]
    rfl
end

section
/-! The Service Arbiter's choice, class by class, and the commands in flight that it takes first (R60 to R66, R91). -/

namespace Sys2Proof.Machine

/-! ### The first lane of a round -/

/-- The round of lanes from a lane on, place by place (R64). -/
theorem lanesFrom_getElem (start k : Lane) : (lanesFrom start)[k.val]? = some (start + k) := by
  revert start k
  decide

/-- The first lane of the round with a property. -/
theorem find?_lanesFrom {p : Lane → Bool} {start k : Lane} (hk : p (start + k) = true)
    (hbefore : ∀ j < k, p (start + j) = false) : (lanesFrom start).find? p = some (start + k) := by
  obtain ⟨hlt, hplace⟩ := List.getElem?_eq_some_iff.mp (lanesFrom_getElem start k)
  refine List.find?_eq_some_iff_getElem.mpr ⟨hk, k.val, hlt, hplace, fun j hj => ?_⟩
  obtain ⟨_, hother⟩ := List.getElem?_eq_some_iff.mp (lanesFrom_getElem start ⟨j, hj.trans k.isLt⟩)
  rw [hother, hbefore _ hj]
  rfl

theorem find?_lanesFrom_eq_none {p : Lane → Bool} {start : Lane} (h : ∀ n, p n = false) :
    (lanesFrom start).find? p = none :=
  List.find?_eq_none.mpr fun n _ => by rw [h n]; exact Bool.false_ne_true

/-- The lowest-numbered lane with a property. -/
theorem find?_lanesAscending {p : Lane → Bool} {n : Lane} (hn : p n = true) (hbefore : ∀ m < n, p m = false) :
    lanesAscending.find? p = some n := by
  have h := find?_lanesFrom (p := p) (start := 0) (k := n) (by rwa [zero_add]) fun m hm => by
    rw [zero_add]
    exact hbefore m hm
  rwa [zero_add] at h

theorem find?_lanesAscending_eq_none {p : Lane → Bool} (h : ∀ n, p n = false) : lanesAscending.find? p = none :=
  find?_lanesFrom_eq_none (start := 0) h

/-! ### What waits in each class -/

section
variable {s : State} {n : Lane}

theorem State.waitingCompletion_eq (hn : (s.lanes.get n).completion ≠ none)
    (hbefore : ∀ m < n, (s.lanes.get m).completion = none) : s.waitingCompletion = some n :=
  find?_lanesAscending (Option.isSome_iff_ne_none.mpr hn) fun m hm => by rw [hbefore m hm]; rfl

theorem State.waitingCompletion_eq_none (h : ∀ m : Lane, (s.lanes.get m).completion = none) :
    s.waitingCompletion = none :=
  find?_lanesAscending_eq_none fun m => by rw [h m]; rfl

theorem State.waitingForcedReport_eq (hn : 0 < (s.lanes.get n).forcedReports)
    (hbefore : ∀ m < n, (s.lanes.get m).forcedReports = 0) : s.waitingForcedReport = some n :=
  find?_lanesAscending (decide_eq_true hn) fun m hm => by rw [hbefore m hm]; rfl

theorem State.waitingForcedReport_eq_none (h : ∀ m : Lane, (s.lanes.get m).forcedReports = 0) :
    s.waitingForcedReport = none :=
  find?_lanesAscending_eq_none fun m => by rw [h m]; rfl

/-- Among the waiting lane requests the first from the pointer's lane on, when the turn is the lanes' (R64, R65). -/
theorem State.waitingRequest_lane {k : Fin 6} (hk : (s.ports.get (s.pointer + k)).request.isWaiting = true)
    (hbefore : ∀ j < k, (s.ports.get (s.pointer + j)).request.isWaiting = false)
    (hturn : s.turn = .lane ∨ s.uplink.slot.isWaiting = false) :
    s.waitingRequest = some (.laneRequest (s.pointer + k)) := by
  have hlane : s.waitingLaneRequest = some (s.pointer + k) := find?_lanesFrom hk hbefore
  unfold State.waitingRequest
  rw [hlane]
  obtain hturn | hidle := hturn
  · rw [hturn]
    cases s.uplink.slot.isWaiting <;> rfl
  · rw [hidle]

/-- The uplink's waiting request, when the turn is its own or no lane's request waits (R65). -/
theorem State.waitingRequest_uplink (hslot : s.uplink.slot.isWaiting = true)
    (hturn : s.turn = .uplink ∨ ∀ n : Lane, (s.ports.get n).request.isWaiting = false) :
    s.waitingRequest = some .uplinkRequest := by
  unfold State.waitingRequest
  rw [hslot]
  obtain hturn | hidle := hturn
  · rw [hturn]
    cases s.waitingLaneRequest <;> rfl
  · have hlane : s.waitingLaneRequest = none := find?_lanesFrom_eq_none hidle
    rw [hlane]

theorem State.waitingRequest_eq_none (hidle : ∀ n : Lane, (s.ports.get n).request.isWaiting = false)
    (hslot : s.uplink.slot.isWaiting = false) : s.waitingRequest = none := by
  have hlane : s.waitingLaneRequest = none := find?_lanesFrom_eq_none hidle
  rw [State.waitingRequest, hlane, hslot]

/-! ### The choice -/

/-- The arbiter at a running part with no item chosen: what is in flight is taken, then the next item (R60, R91). -/
theorem exec_serviceArbiterChoice (hrst : s.rstAsserted = false) (hrunning : s.restarting = false)
    (hchosen : s.chosen = none) :
    exec .serviceArbiterChoice s =
      .next (s.settleCommands.nextService.elim s.settleCommands s.settleCommands.choose) := by
  have hmay : s.mayChoose = true := by simp [State.mayChoose, hrst, hrunning, hchosen]
  simp only [exec, execServiceArbiterChoice, hmay, if_true]
  cases s.settleCommands.nextService <;> rfl

theorem State.settleCommands_of_none (h : s.commands = []) : s.settleCommands = s := by
  rw [State.settleCommands, h, List.foldl_nil, ← h]

/-- The oldest command in flight is taken first (R91). -/
theorem State.settleCommands_cons {c : LaneCommand} {rest : List LaneCommand} (h : s.commands = c :: rest) :
    s.settleCommands = ({ s with commands := rest }.takeLaneCommand c).settleCommands := by
  rw [State.settleCommands, h]
  cases c <;> rfl

theorem exec_armCommand_of_front {d : Side} {rest : List LaneCommand} (hrst : s.rstAsserted = false)
    (h : s.commands = .arm n d :: rest) :
    exec .armCommand s = .next ({ s with commands := rest }.takeLaneCommand (.arm n d)) := by
  rw [exec, execArmCommand, hrst, h]

theorem exec_withdrawCommand_of_front {rest : List LaneCommand} (hrst : s.rstAsserted = false)
    (h : s.commands = .withdraw n :: rest) :
    exec .withdrawCommand s = .next ({ s with commands := rest }.takeLaneCommand (.withdraw n)) := by
  rw [exec, execWithdrawCommand, hrst, h]

/-- The choice is the same when the oldest command in flight has been taken before it by its own row (R91). -/
theorem exec_serviceArbiterChoice_cons {c : LaneCommand} {rest : List LaneCommand} (hrst : s.rstAsserted = false)
    (hrunning : s.restarting = false) (hchosen : s.chosen = none) (h : s.commands = c :: rest) :
    exec .serviceArbiterChoice s =
      exec .serviceArbiterChoice ({ s with commands := rest }.takeLaneCommand c) := by
  have hframe := State.takeLaneCommand_frame { s with commands := rest } c
  rw [exec_serviceArbiterChoice hrst hrunning hchosen, State.settleCommands_cons h, exec_serviceArbiterChoice]
  all_goals rw [hframe]; assumption

/-! ### The choice by class -/

/-- The first of a list's items, by its head. -/
theorem findSome?_id_cons {α : Type} (o : Option α) (l : List (Option α)) :
    (o :: l).findSome? id = o.or (l.findSome? id) := by
  cases o <;> rfl

/-- The classes are asked in their order (R60). -/
theorem State.nextService_eq (s : State) :
    s.nextService =
      (s.waitingCompletion.map Service.completion).or ((s.waitingForcedReport.map Service.forcedReport).or
        ((if s.gc.events = [] then none else some Service.gateEvent).or
          (s.waitingRequest.or (if s.backfillWaits then some Service.backfill else none)))) := by
  simp only [State.nextService, findSome?_id_cons, List.findSome?_nil, Option.or_none]

/-- The arbiter may choose, and no command is in flight (R60, R91). -/
structure State.Idle (s : State) : Prop where
  rst : s.rstAsserted = false
  running : s.restarting = false
  chosen : s.chosen = none
  commands : s.commands = []

theorem State.Idle.exec_of_next (h : s.Idle) {item : Service} (hnext : s.nextService = some item) :
    exec .serviceArbiterChoice s = .next (s.choose item) := by
  rw [exec_serviceArbiterChoice h.rst h.running h.chosen, State.settleCommands_of_none h.commands, hnext]
  rfl

theorem State.Idle.exec_of_nothing (h : s.Idle) (hnext : s.nextService = none) :
    exec .serviceArbiterChoice s = .next s := by
  rw [exec_serviceArbiterChoice h.rst h.running h.chosen, State.settleCommands_of_none h.commands, hnext]
  rfl

/-- No completion, no forced report and no gate event waits: the choice is class 4's or class 5's (R60). -/
structure State.Calm (s : State) : Prop where
  completions : ∀ m : Lane, (s.lanes.get m).completion = none
  forced : ∀ m : Lane, (s.lanes.get m).forcedReports = 0
  events : s.gc.events = []

theorem State.Calm.nextService (h : s.Calm) :
    s.nextService = s.waitingRequest.or (if s.backfillWaits then some .backfill else none) := by
  rw [s.nextService_eq, State.waitingCompletion_eq_none h.completions, State.waitingForcedReport_eq_none h.forced,
    if_pos h.events]
  rfl

theorem State.choose_laneRequest {q : LaneRequest} (hq : (s.ports.get n).request = .waiting q) :
    s.choose (.laneRequest n) =
      { s with
        chosen := some (.laneRequest n), ports := s.ports.set n { s.ports.get n with request := .inService q } } := by
  simp only [State.choose, hq, RequestSlot.takeUp]
  rfl

theorem State.choose_uplinkRequest {r : UplinkRequest} (hr : s.uplink.slot = .waiting r) :
    s.choose .uplinkRequest =
      { s with chosen := some .uplinkRequest, uplink := { s.uplink with slot := .inService r } } := by
  simp only [State.choose, hr, UplinkSlot.takeUp]

end

end Sys2Proof.Machine

open Sys2Proof Sys2Proof.Machine

/-- Settles O31: each class is asked when those before it have nothing waiting, and what is in flight is settled
first either way. -/
theorem arbiterChoosesByClass : Obligations.ArbiterChoosesByClass := by
  intro s hrst hrunning hchosen
  refine ⟨fun hcommands => ?_, fun n d rest t => ⟨fun h ht => ?_, fun h ht => ?_⟩⟩
  · have hidle : s.Idle := ⟨hrst, hrunning, hchosen, hcommands⟩
    refine ⟨fun n hn hbefore => ?_, fun hcompletions => ⟨fun n hn hbefore => ?_, fun hforced =>
      ⟨fun hevents => ?_, fun hevents => ?_⟩⟩⟩
    · refine hidle.exec_of_next (item := .completion n) ?_
      rw [s.nextService_eq, State.waitingCompletion_eq hn hbefore]
      rfl
    · refine hidle.exec_of_next (item := .forcedReport n) ?_
      rw [s.nextService_eq, State.waitingCompletion_eq_none hcompletions, State.waitingForcedReport_eq hn hbefore]
      rfl
    · refine hidle.exec_of_next (item := .gateEvent) ?_
      rw [s.nextService_eq, State.waitingCompletion_eq_none hcompletions, State.waitingForcedReport_eq_none hforced,
        if_neg hevents]
      rfl
    · have hnext := State.Calm.nextService ⟨hcompletions, hforced, hevents⟩
      refine ⟨?_, fun r hr hturn => ?_, fun hlanes hslot => ?_⟩
      · rintro k _ q rfl hq hbefore hturn
        rw [State.waitingRequest_lane (by rw [hq]; rfl) hbefore hturn] at hnext
        rw [hidle.exec_of_next hnext, State.choose_laneRequest hq]
      · rw [State.waitingRequest_uplink (by rw [hr]; rfl) hturn] at hnext
        rw [hidle.exec_of_next hnext, State.choose_uplinkRequest hr]
      · rw [State.waitingRequest_eq_none hlanes hslot, State.backfillWaits, State.journalHasRoom,
          Config.journalCapacity, ← Bool.decide_and, Option.none_or] at hnext
        split
        · rename_i hwaits
          rw [if_pos (decide_eq_true hwaits)] at hnext
          exact hidle.exec_of_next hnext
        · rename_i hnone
          rw [if_neg (by simpa using hnone)] at hnext
          exact hidle.exec_of_nothing hnext
  · rw [← next_inj ((exec_armCommand_of_front hrst h).symm.trans ht)]
    exact exec_serviceArbiterChoice_cons hrst hrunning hchosen h
  · rw [← next_inj ((exec_withdrawCommand_of_front hrst h).symm.trans ht)]
    exact exec_serviceArbiterChoice_cons hrst hrunning hchosen h
end

section
/-! The end of a hold without a passage, by a completion and by CANCEL: the record's side, the zone's, the journal's
and the lane's (R88, R96, R97, R101 to R104). -/

namespace Sys2Proof.Machine

/-! ### The record -/

section
variable (r : Record) (h : Hold)

/-- The record's state after the end is chosen by the hold's marks and direction (R101). -/
theorem Record.afterNonCommit_state :
    (r.afterNonCommit h).state =
      if h.revokeMark then .revoked
      else
        match h.direction, h.remoteMark with
        | .IN, none => h.prior.state
        | .IN, some _ => .inside
        | .OUT, _ => .inside := by
  unfold Record.afterNonCommit
  split <;> simp [*]

/-- An entry that another gate reported counts with that gate's passage, unless the record is revoked (R101). -/
theorem Record.afterNonCommit_passage :
    match h.direction, h.remoteMark, h.revokeMark with
    | .IN, some m, false =>
      (r.afterNonCommit h).entries.val = min (r.entries.val + 1) 15 ∧
        (r.afterNonCommit h).lastPassage = some ⟨m.time, .gate m.gate⟩
    | _, _, _ => (r.afterNonCommit h).entries = r.entries ∧ (r.afterNonCommit h).lastPassage = r.lastPassage := by
  unfold Record.afterNonCommit
  cases h.direction with
  | OUT => cases h.revokeMark <;> exact ⟨rfl, rfl⟩
  | IN =>
    cases h.remoteMark with
    | none => cases h.revokeMark <;> exact ⟨rfl, rfl⟩
    | some m =>
      cases h.revokeMark with
      | true => exact ⟨rfl, rfl⟩
      | false => exact ⟨raiseEntries_val _, rfl⟩

/-- The rest of the record stays (R96). -/
theorem Record.afterNonCommit_eq :
    r.afterNonCommit h = { r with
      state := (r.afterNonCommit h).state, entries := (r.afterNonCommit h).entries
      lastPassage := (r.afterNonCommit h).lastPassage } := by
  unfold Record.afterNonCommit
  split <;> rfl

end

/-! ### The record's side of the end -/

/-- An entry hold carries a remote mark, or the hold is an exit's or carries none (R97). -/
theorem Hold.marked_or_plain (h : Hold) :
    (∃ m, h.direction = .IN ∧ h.remoteMark = some m) ∨ h.direction = .OUT ∨ h.remoteMark = none := by
  cases hdirection : h.direction with
  | OUT => exact .inr (.inl rfl)
  | IN =>
    cases h.remoteMark with
    | none => exact .inr (.inr rfl)
    | some m => exact .inl ⟨m, rfl, rfl⟩

/-- The record written and the reserved place given up, before any report (R97, R101). -/
def State.writeNonCommit (s : State) (slot : Nat) (r : Record) (h : Hold) : State :=
  (s.setRecord slot (r.afterNonCommit h)).modifyReservedZone h ZoneRecord.release

section
variable {s t : State} {n : Lane} {slot : Nat} {r : Record} {h : Hold}

theorem State.writeNonCommit_frame :
    s.writeNonCommit slot r h =
      { s with table := s.table.set slot (r.afterNonCommit h), zones := (s.writeNonCommit slot r h).zones } :=
  State.modifyReservedZone_frame _ h _

theorem State.writeNonCommit_zones (z : ZoneNo) :
    (s.writeNonCommit slot r h).zones.get z =
      if h.reservedZone = some z then { s.zones.get z with reserved := (s.zones.get z).reserved - 1 }
      else s.zones.get z :=
  (State.modifyReservedZone_eq (s.setRecord slot (r.afterNonCommit h)) h ZoneRecord.release).2 z

theorem State.writeNonCommit_get? (hget : s.table.get? slot = some r) :
    (s.writeNonCommit slot r h).table.get? slot = some (r.afterNonCommit h) := by
  rw [State.writeNonCommit_frame]
  simp [hget]

theorem State.writeNonCommit_others {k : Nat} (hk : k ≠ slot) :
    (s.writeNonCommit slot r h).table.get? k = s.table.get? k := by
  rw [State.writeNonCommit_frame]
  simp [Ne.symm hk]

/-- An entry hold with a remote mark reports a CONFLICT (R97, R101). -/
theorem State.endNonCommit_marked {m : RemoteMark} (hdirection : h.direction = .IN) (hmark : h.remoteMark = some m)
    (now : VenueTime) :
    s.endNonCommit slot r h now =
      (s.writeNonCommit slot r h).report slot (r.afterNonCommit h) .conflict (.lane h.lane) now
        (h.reservedZone.getD (s.zoneOf r)) := by
  have hzone : (s.writeNonCommit slot r h).zoneOf (r.afterNonCommit h) = s.zoneOf r := by
    rw [State.writeNonCommit_frame, Record.afterNonCommit_eq]
    rfl
  rw [← hzone]
  simp only [State.endNonCommit, hdirection, hmark]
  rfl

theorem State.endNonCommit_plain (h' : h.direction = .OUT ∨ h.remoteMark = none) (now : VenueTime) :
    s.endNonCommit slot r h now = s.writeNonCommit slot r h := by
  unfold State.endNonCommit
  obtain hdirection | hmark := h'
  · simp only [hdirection]
    rfl
  · cases hdirection : h.direction <;> simp only [hmark] <;> rfl

/-! ### The whole end -/

/-- The end from the record it leaves, owing a report or not, and from what it leaves of the rest. -/
theorem State.EndsWithoutPassage.of_record {howEnded : HoldEnd} {owed : Bool}
    (hrecord : t.table.get? slot = some { r.afterNonCommit h with pendingReport := owed })
    (hothers : ∀ k, k ≠ slot → t.table.get? k = s.table.get? k)
    (hzones : t.zones = (s.writeNonCommit slot r h).zones)
    (hreport :
      match h.direction, h.remoteMark with
      | .IN, some _ =>
        s.Reports t slot .conflict (.lane h.lane) s.clock.time
            (h.reservedZone.getD (s.classes.get r.cls).zone) r.pendingReport ∧
          owed = (r.pendingReport || decide (1024 ≤ s.journal.length))
      | _, _ =>
        t.journal = s.journal ∧ t.nextSeq = s.nextSeq ∧ t.pendingCount = s.pendingCount ∧ owed = r.pendingReport)
    (hcontexts : t.contexts = s.contexts.set n ((s.contexts.get n).ended howEnded r.ticket)) :
    s.EndsWithoutPassage t n slot r h howEnded where
  record := by
    refine ⟨_, hrecord, ?_⟩
    rw [r.afterNonCommit_eq h]
  state q hq := by
    rw [hrecord] at hq
    cases hq
    exact r.afterNonCommit_state h
  passage q hq := by
    rw [hrecord] at hq
    cases hq
    exact r.afterNonCommit_passage h
  others := hothers
  zones z := by rw [hzones, State.writeNonCommit_zones]
  report := by
    rw [hrecord]
    cases hdirection : h.direction <;> cases hmark : h.remoteMark <;> simpa [hdirection, hmark] using hreport
  contexts := hcontexts

/-- The record's side, then the lane's. -/
theorem State.endNonCommit_endsWithoutPassage (hget : s.table.get? slot = some r) (n : Lane) (howEnded : HoldEnd) :
    s.EndsWithoutPassage ((s.endNonCommit slot r h s.clock.time).closeHold n howEnded r.ticket) n slot r h
      howEnded := by
  have hwritten := State.writeNonCommit_get? (h := h) hget
  have hothers (k : Nat) (hk : k ≠ slot) := State.writeNonCommit_others (s := s) (r := r) (h := h) hk
  have hjournal : (s.writeNonCommit slot r h).journal = s.journal ∧ (s.writeNonCommit slot r h).nextSeq = s.nextSeq ∧
      (s.writeNonCommit slot r h).pendingCount = s.pendingCount := by
    rw [State.writeNonCommit_frame]
    exact ⟨rfl, rfl, rfl⟩
  have hcontexts : ((s.endNonCommit slot r h s.clock.time).closeHold n howEnded r.ticket).contexts
      = s.contexts.set n ((s.contexts.get n).ended howEnded r.ticket) := by
    rw [(s.endNonCommit_holdEnds slot r h s.clock.time).frame]
    rfl
  obtain ⟨-, -, -, hpending⟩ := r.afterNonCommit_frame h
  obtain ⟨m, hdirection, hmark⟩ | hplain := h.marked_or_plain
  · obtain ⟨hrecord, hkept, hreports⟩ := State.report_spec s (s.writeNonCommit slot r h) slot (r.afterNonCommit h)
      .conflict (.lane h.lane) s.clock.time (h.reservedZone.getD (s.zoneOf r)) hwritten hjournal
    have hzones := congrArg State.zones ((s.writeNonCommit slot r h).report_frame slot (r.afterNonCommit h) .conflict
      (.lane h.lane) s.clock.time (h.reservedZone.getD (s.zoneOf r)) _ rfl)
    rw [State.endNonCommit_marked hdirection hmark] at hcontexts ⊢
    rw [hpending] at hrecord hreports
    refine .of_record hrecord (fun k hk => (hkept k hk).trans (hothers k hk)) hzones ?_ hcontexts
    rw [hdirection, hmark]
    exact ⟨hreports, rfl⟩
  · rw [State.endNonCommit_plain hplain] at hcontexts ⊢
    refine .of_record (owed := r.pendingReport) ?_ hothers rfl ?_ hcontexts
    · rw [← hpending]
      exact hwritten
    · split
      · rename_i hdirection hmark
        simp [hdirection, hmark] at hplain
      · obtain ⟨hentries, hseq, hcount⟩ := hjournal
        exact ⟨hentries, hseq, hcount, rfl⟩

/-- The end of a service changes nothing that the end of a hold is about. -/
theorem State.EndsWithoutPassage.finish {howEnded : HoldEnd} (hends : s.EndsWithoutPassage t n slot r h howEnded) :
    s.EndsWithoutPassage t.finish n slot r h howEnded :=
  ⟨hends.record, hends.state, hends.passage, hends.others, hends.zones, hends.report, hends.contexts⟩

/-- A lane unit relocked first is no part of what the end is about. -/
theorem State.relocked_endsWithoutPassage {lu : LaneUnit} (hget : s.table.get? slot = some r) (n : Lane)
    (howEnded : HoldEnd) :
    s.EndsWithoutPassage (((s.setLane n lu).endNonCommit slot r h s.clock.time).closeHold n howEnded r.ticket) n slot
      r h howEnded := by
  have hends := State.endNonCommit_endsWithoutPassage (s := s.setLane n lu) (h := h) hget n howEnded
  exact ⟨hends.record, hends.state, hends.passage, hends.others, hends.zones, hends.report, hends.contexts⟩

/-! ### The services -/

/-- A completion in service that is no commit ends the hold of the record that its lane holds (R61, R102, R103). -/
theorem exec_nonCommitCompletion_of_held {c : Instr} {howEnded : HoldEnd} (htakes : s.Takes (.completion n))
    (hheld : s.heldAt n = some (slot, r, h))
    (hc : (c = .expiryCompletion ∧ (s.lanes.get n).completion = some .expiry ∧ howEnded = .expired) ∨
      (c = .withdrawnCompletion ∧ (s.lanes.get n).completion = some .withdrawn ∧ howEnded = .withdrawn)) :
    exec c s = .next ((s.endNonCommit slot r h s.clock.time).closeHold n howEnded r.ticket).finish := by
  have hserving := (State.serving_eq_some s _).mpr htakes
  obtain ⟨rfl, hcompletion, rfl⟩ | ⟨rfl, hcompletion, rfl⟩ := hc
  · simp only [exec, execExpiryCompletion, State.completionInService, hserving, hcompletion, Option.map_some,
      State.serveNonCommit, hheld]
  · simp only [exec, execWithdrawnCompletion, State.completionInService, hserving, hcompletion, Option.map_some,
      State.serveNonCommit, hheld]

/-- CANCEL at an ARMED lane with a hold: the relock, then the end (R88, R104). -/
theorem State.cancelHold_of_held (hheld : s.heldAt n = some (slot, r, h)) (harmed : (s.lanes.get n).state = .armed) :
    s.cancelHold n =
      (((s.setLane n (s.lanes.get n).relock).endNonCommit slot r h s.clock.time).closeHold n .cancelled r.ticket,
        true) := by
  simp only [State.cancelHold, hheld, harmed]

theorem LaneUnit.relock_eq_inState (lu : LaneUnit) : lu.relock = { lu with armTimer := none }.inState .locked :=
  LaneUnit.goTo_eq_inState _ _

/-- The lane's side of CANCEL's end, over the state that the record's side left. -/
theorem State.HoldEnds.closeHold_relocked {u : State}
    (hends : (s.setLane n (s.lanes.get n).relock).HoldEnds slot r h u) (howEnded : HoldEnd) (ticket : Ticket) :
    u.closeHold n howEnded ticket =
      { s with
        table := u.table, pendingCount := u.pendingCount, zones := u.zones
        contexts := s.contexts.set n ((s.contexts.get n).ended howEnded ticket)
        lanes := s.lanes.set n ({ s.lanes.get n with armTimer := none }.inState .locked).released
        journal := u.journal, nextSeq := u.nextSeq, attn := u.attn } := by
  have hlanes : (s.lanes.set n (s.lanes.get n).relock).set n
      ((s.lanes.set n (s.lanes.get n).relock).get n).endHold
        = s.lanes.set n ({ s.lanes.get n with armTimer := none }.inState .locked).released := by
    simp [LaneUnit.endHold_eq_released, LaneUnit.relock_eq_inState]
  rw [hends.frame, ← hlanes]
  rfl

/-- After its hold's end a lane has none, and its status block shows the outcome (R86, R96). -/
theorem State.closeHold_statusBlock (s : State) (n : Lane) (howEnded : HoldEnd) (ticket : Ticket) :
    (s.closeHold n howEnded ticket).statusBlock n =
      { laneState := (s.lanes.get n).endHold.state, hold := none, lastOutcome := some ⟨howEnded, ticket⟩
        forcedSincePoll := (s.contexts.get n).forcedSincePoll
        gate := s.gc.gate, link := s.gc.link, overrun := false } := by
  have hheld : (s.closeHold n howEnded ticket).heldAt n = none := State.heldAt_of_noRef (by simp)
  rw [State.statusBlock, hheld]
  simp

/-- After CANCEL the lane is LOCKED without a hold (R88). -/
theorem State.HoldEnds.closeHold_relocked_statusBlock {u : State}
    (hends : (s.setLane n (s.lanes.get n).relock).HoldEnds slot r h u) (howEnded : HoldEnd) (ticket : Ticket) :
    (u.closeHold n howEnded ticket).statusBlock n =
      { laneState := .locked, hold := none, lastOutcome := some ⟨howEnded, ticket⟩
        forcedSincePoll := (s.contexts.get n).forcedSincePoll
        gate := s.gc.gate, link := s.gc.link, overrun := false } := by
  rw [State.closeHold_statusBlock, hends.frame]
  simp [LaneUnit.endHold_eq_released, LaneUnit.relock_eq_inState, LaneUnit.released, LaneUnit.inState]

end

end Sys2Proof.Machine

open Sys2Proof Sys2Proof.Machine

/-- Settles O35: the end is the same for the three services; CANCEL relocks the lane before it and replies after it. -/
theorem holdsEndWithoutPassage : Obligations.HoldsEndWithoutPassage := by
  intro n ref r h s href hget hstate
  have hheld := (State.heldAt_eq_some s n ref.slot r h).mpr ⟨ref, href, rfl, hget, hstate⟩
  refine ⟨fun c how htakes hc => ?_, fun htakes harmed => ?_⟩
  · have hends := (State.endNonCommit_endsWithoutPassage (h := h) hget n how).finish
    refine ⟨_, exec_nonCommitCompletion_of_held htakes hheld hc, hends, ?_⟩
    rw [hends.contexts]
    exact (s.endNonCommit_holdEnds ref.slot r h s.clock.time).closeHold_finish how r.ticket
  · have hends := State.relocked_endsWithoutPassage (h := h) (lu := (s.lanes.get n).relock) hget n .cancelled
    have hrecord := (s.setLane n (s.lanes.get n).relock).endNonCommit_holdEnds ref.slot r h s.clock.time
    refine ⟨_, hends, ?_, ?_⟩
    · rw [hends.contexts]
      exact hrecord.closeHold_relocked .cancelled r.ticket
    · rw [exec_cancel_of_takes htakes, State.cancelHold_of_held hheld harmed]
      dsimp only
      rw [hrecord.closeHold_relocked_statusBlock]
end

section
/-! Every command completes, and the queue is no part of what it does (R59): each operation, at the same part under
another queue, does the same. -/

namespace Sys2Proof.Machine

/-- The part under another queue. -/
abbrev State.onQueue (s : State) (q : List Instr) : State := { s with pending := q }

section
variable (s : State) (q : List Instr)

/-! ### What is read of the part -/

theorem State.journalHasRoom_onQueue : (s.onQueue q).journalHasRoom = s.journalHasRoom := rfl
theorem State.serving_onQueue : (s.onQueue q).serving = s.serving := rfl
theorem State.completionInService_onQueue : (s.onQueue q).completionInService = s.completionInService := rfl
theorem State.laneRequestInService_onQueue : (s.onQueue q).laneRequestInService = s.laneRequestInService := rfl
theorem State.uplinkRequestInService_onQueue : (s.onQueue q).uplinkRequestInService = s.uplinkRequestInService := rfl
theorem State.mayChoose_onQueue : (s.onQueue q).mayChoose = s.mayChoose := rfl
theorem State.nextService_onQueue : (s.onQueue q).nextService = s.nextService := rfl
theorem State.heldAt_onQueue (n : Lane) : (s.onQueue q).heldAt n = s.heldAt n := rfl
theorem State.decision_onQueue (n : Lane) (c : Credential) : (s.onQueue q).decision n c = s.decision n c := rfl

/-! ### The shared operations -/

/-- Operations one after another. -/
theorem State.foldl_onQueue {α : Type} {f : State → α → State}
    (hf : ∀ (s : State) (a : α), f (s.onQueue q) a = (f s a).onQueue q) (l : List α) :
    l.foldl f (s.onQueue q) = (l.foldl f s).onQueue q := by
  induction l generalizing s with
  | nil => rfl
  | cons a l ih => rw [List.foldl_cons, hf, ih, List.foldl_cons]

theorem State.modifyReservedZone_onQueue (h : Hold) (f : ZoneRecord → ZoneRecord) :
    (s.onQueue q).modifyReservedZone h f = (s.modifyReservedZone h f).onQueue q := by
  unfold State.modifyReservedZone
  split <;> rfl

theorem State.flagPending_onQueue (slot : Nat) : (s.onQueue q).flagPending slot = (s.flagPending slot).onQueue q := by
  unfold State.flagPending
  dsimp only
  split
  · split <;> rfl
  · rfl

theorem State.report_onQueue (slot : Nat) (r : Record) (kind : Kind) (source : Source) (time : VenueTime)
    (zone : ZoneNo) :
    (s.onQueue q).report slot r kind source time zone = (s.report slot r kind source time zone).onQueue q := by
  unfold State.report State.journalHasRoom
  dsimp only
  split
  · rfl
  · exact s.flagPending_onQueue q slot

theorem State.reportRecordless_onQueue (kind : Kind) (source : Source) (time : VenueTime) :
    (s.onQueue q).reportRecordless kind source time = (s.reportRecordless kind source time).onQueue q := by
  unfold State.reportRecordless State.journalHasRoom
  dsimp only
  split <;> rfl

theorem State.writeNonCommit_onQueue (slot : Nat) (r : Record) (h : Hold) :
    (s.onQueue q).writeNonCommit slot r h = (s.writeNonCommit slot r h).onQueue q :=
  (s.setRecord slot (r.afterNonCommit h)).modifyReservedZone_onQueue q h ZoneRecord.release

theorem State.endNonCommit_onQueue (slot : Nat) (r : Record) (h : Hold) (now : VenueTime) :
    (s.onQueue q).endNonCommit slot r h now = (s.endNonCommit slot r h now).onQueue q := by
  obtain ⟨m, hdirection, hmark⟩ | hplain := h.marked_or_plain
  · rw [State.endNonCommit_marked hdirection hmark, State.endNonCommit_marked hdirection hmark,
      State.writeNonCommit_onQueue, State.report_onQueue]
    rfl
  · rw [State.endNonCommit_plain hplain, State.endNonCommit_plain hplain, State.writeNonCommit_onQueue]

theorem State.endCommit_onQueue (slot : Nat) (r : Record) (h : Hold) (capture : VenueTime) :
    (s.onQueue q).endCommit slot r h capture = (s.endCommit slot r h capture).onQueue q := by
  unfold State.endCommit
  dsimp only
  split
  · rw [← State.report_onQueue, ← State.modifyReservedZone_onQueue]
    rfl
  · rw [← State.report_onQueue]
    rfl

theorem State.serveCommit_onQueue (n : Lane) (capture : VenueTime) :
    (s.onQueue q).serveCommit n capture = (s.serveCommit n capture).onQueue q := by
  simp only [State.serveCommit, State.heldAt_onQueue, State.endCommit_onQueue]
  split <;> rfl

theorem State.serveNonCommit_onQueue (n : Lane) (howEnded : HoldEnd) :
    (s.onQueue q).serveNonCommit n howEnded = (s.serveNonCommit n howEnded).onQueue q := by
  simp only [State.serveNonCommit, State.heldAt_onQueue, State.endNonCommit_onQueue]
  split <;> rfl

theorem State.cancelHold_onQueue (n : Lane) :
    (s.onQueue q).cancelHold n = ((s.cancelHold n).1.onQueue q, (s.cancelHold n).2) := by
  have hrelocked := (s.setLane n (s.lanes.get n).relock).endNonCommit_onQueue q
  unfold State.cancelHold
  rw [State.heldAt_onQueue]
  dsimp only
  split
  · exact congrArg (fun u : State => (u.closeHold n .cancelled _, true)) (hrelocked _ _ _ _)
  · rfl

theorem State.grantHold_onQueue (n : Lane) (c : Credential) (slot : Nat) (r : Record) :
    (s.onQueue q).grantHold n c slot r = (s.grantHold n c slot r).onQueue q := by
  have hreserved := (s.setRecord slot { r with state := .held (s.newHold n c r) }).modifyReservedZone_onQueue q
    (s.newHold n c r) ZoneRecord.reserve
  exact congrArg (fun u : State => { u.setContext n { u.contexts.get n with holdRef := some ⟨r.ticket, slot⟩ } with
    commands := u.commands ++ [LaneCommand.arm n c.side] }) hreserved

theorem State.present_onQueue (n : Lane) (c : Credential) :
    (s.onQueue q).present n c = ((s.present n c).1.onQueue q, (s.present n c).2) := by
  unfold State.present
  rw [State.decision_onQueue]
  split
  · rfl
  · rfl
  · rfl
  · rw [State.grantHold_onQueue]
    rfl

theorem State.servePresentation_onQueue (n : Lane) (c : Credential) :
    (s.onQueue q).servePresentation n c = (s.servePresentation n c).onQueue q := by
  rw [State.servePresentation, State.present_onQueue]
  rfl

/-! ### What is due -/

theorem State.settleExpiry_onQueue (n : Lane) : (s.onQueue q).settleExpiry n = (s.settleExpiry n).onQueue q := by
  unfold State.settleExpiry
  split <;> rfl

theorem State.settleTimeout_onQueue : (s.onQueue q).settleTimeout = s.settleTimeout.onQueue q := by
  unfold State.settleTimeout
  split <;> rfl

theorem State.settleEvac_onQueue : (s.onQueue q).settleEvac = s.settleEvac.onQueue q := by
  unfold State.settleEvac State.evacAssertionDue State.evacReleaseDue
  dsimp only
  split
  · rfl
  · split <;> rfl

theorem State.settleDue_onQueue : (s.onQueue q).settleDue = s.settleDue.onQueue q := by
  unfold State.settleDue
  rw [State.foldl_onQueue s q fun s n => s.settleExpiry_onQueue q n, State.settleTimeout_onQueue,
    State.settleEvac_onQueue]

theorem State.arrive_onQueue : (s.onQueue q).arrive = s.arrive.onQueue q := by
  unfold State.arrive
  dsimp only
  split
  · rfl
  · split <;> rfl

theorem State.settleAll_onQueue : (s.onQueue q).settleAll = s.settleAll.onQueue q := by
  rw [State.settleAll, State.arrive_onQueue, State.settleDue_onQueue, State.settleAll]

theorem State.tickClock_onQueue : (s.onQueue q).tickClock = s.tickClock.onQueue q := rfl

theorem State.countTick_onQueue : (s.onQueue q).countTick = s.countTick.onQueue q := rfl

theorem State.holdReset_onQueue : (s.onQueue q).holdReset = s.holdReset.onQueue q := rfl

theorem State.takeLaneCommand_onQueue (c : LaneCommand) :
    (s.onQueue q).takeLaneCommand c = (s.takeLaneCommand c).onQueue q := by
  cases c <;> rfl

theorem State.settleCommands_onQueue : (s.onQueue q).settleCommands = s.settleCommands.onQueue q :=
  State.foldl_onQueue { s with commands := [] } q (fun s c => s.takeLaneCommand_onQueue q c) s.commands

theorem State.choose_onQueue (item : Service) : (s.onQueue q).choose item = (s.choose item).onQueue q := by
  cases item <;> rfl

/-! ### The warm reset -/

theorem State.endByReset_onQueue (slot : Nat) : (s.onQueue q).endByReset slot = (s.endByReset slot).onQueue q := by
  unfold State.endByReset
  dsimp only
  split
  · split
    · exact s.endNonCommit_onQueue q _ _ _ _
    · rfl
  · rfl

theorem State.endAllHolds_onQueue : (s.onQueue q).endAllHolds = s.endAllHolds.onQueue q := by
  unfold State.endAllHolds
  refine State.foldl_onQueue s q (fun s n => ?_) _
  exact State.foldl_onQueue s q (fun s slot => s.endByReset_onQueue q slot) _

theorem State.warmReset_onQueue (pins : WarmPins) : (s.onQueue q).warmReset pins = (s.warmReset pins).onQueue q := by
  rw [State.warmReset_eq, State.warmReset_eq, State.endAllHolds_onQueue]
  generalize s.endAllHolds = u
  rfl

end

/-! ### The services of uplink requests -/

/-- A service under another queue does the same and answers the same. -/
def ServesOnAnyQueue (serve : State → List Byte → State × Answer) : Prop :=
  ∀ (s : State) (q : List Instr) (p : List Byte), serve (s.onQueue q) p = ((serve s p).1.onQueue q, (serve s p).2)


theorem State.serveUplink_onQueue (s : State) (q : List Instr) (k : UplinkKind)
    {serve : State → List Byte → State × Answer} (hserve : ServesOnAnyQueue serve) :
    (s.onQueue q).serveUplink k serve = (s.serveUplink k serve).onQueue q := by
  unfold State.serveUplink
  rw [State.uplinkRequestInService_onQueue]
  split
  · split
    · rw [hserve]
      rfl
    · rfl
  · rfl

theorem loadTicketService_onQueue : ServesOnAnyQueue loadTicketService := by
  intro s q p
  unfold loadTicketService
  dsimp only
  repeat' split
  all_goals rfl

theorem dropTicketService_onQueue : ServesOnAnyQueue dropTicketService := by
  intro s q p
  unfold dropTicketService
  dsimp only
  repeat' split
  all_goals rfl

theorem clearTableService_onQueue : ServesOnAnyQueue clearTableService := by
  intro s q p
  unfold clearTableService
  dsimp only
  repeat' split
  all_goals rfl

theorem queryTicketService_onQueue : ServesOnAnyQueue queryTicketService := by
  intro s q p
  unfold queryTicketService
  dsimp only
  repeat' split
  all_goals rfl

theorem setClassService_onQueue : ServesOnAnyQueue setClassService := by
  intro s q p
  unfold setClassService
  split <;> rfl

theorem setZoneService_onQueue : ServesOnAnyQueue setZoneService := by
  intro s q p
  unfold setZoneService
  split <;> rfl

theorem reportDouble_onQueue (s : State) (q : List Instr) (slot : Nat) (r : Record) (x : Notice) :
    (s.onQueue q).reportDouble slot r x = (s.reportDouble slot r x).onQueue q :=
  s.report_onQueue q slot r .double (.gate x.gate) x.time (s.zoneOf r)

/-- A notice's own effect under another queue is the same. -/
def FindsOnAnyQueue (found : State → Nat → Record → Notice → State × Answer) : Prop :=
  ∀ (s : State) (q : List Instr) (slot : Nat) (r : Record) (x : Notice),
    found (s.onQueue q) slot r x = ((found s slot r x).1.onQueue q, (found s slot r x).2)

theorem noteAdmitHeld_onQueue (s : State) (q : List Instr) (slot : Nat) (r : Record) (h : Hold) (x : Notice) :
    noteAdmitHeld (s.onQueue q) slot r h x
      = ((noteAdmitHeld s slot r h x).1.onQueue q, (noteAdmitHeld s slot r h x).2) := by
  unfold noteAdmitHeld
  split
  · rfl
  · rfl
  · exact congrArg (fun u : State => (u.sendWithdraw h.lane, noticeAnswer .ok slot r true))
      (reportDouble_onQueue (s.modifyZone (s.zoneOf r) ZoneRecord.countIn) q slot r x)

theorem noteAdmitFound_onQueue : FindsOnAnyQueue noteAdmitFound := by
  intro s q slot r x
  unfold noteAdmitFound
  cases r.state with
  | valid | outside => rfl
  | inside | spent | revoked =>
    exact congrArg (fun u : State => (u, noticeAnswer .ok slot r false)) (reportDouble_onQueue s q slot r x)
  | held h => exact noteAdmitHeld_onQueue s q slot r h x

theorem noteExitFound_onQueue : FindsOnAnyQueue noteExitFound := by
  intro s q slot r x
  unfold noteExitFound
  split <;> rfl

theorem noticeService_onQueue {found : State → Nat → Record → Notice → State × Answer}
    (hfound : FindsOnAnyQueue found) : ServesOnAnyQueue (noticeService found) := by
  intro s q p
  unfold noticeService
  dsimp only
  split
  · rfl
  · split
    · rfl
    · split
      · rfl
      · exact hfound s q _ _ _

theorem revokeService_onQueue : ServesOnAnyQueue revokeService := by
  intro s q p
  unfold revokeService
  dsimp only
  repeat' split
  all_goals rfl

theorem openGateService_onQueue : ServesOnAnyQueue openGateService := by
  intro s q p
  unfold openGateService
  dsimp only
  split <;> rfl

theorem closeGateService_onQueue : ServesOnAnyQueue closeGateService := by
  intro s q p
  unfold closeGateService
  dsimp only
  split <;> rfl

theorem setIdentityService_onQueue : ServesOnAnyQueue setIdentityService := by
  intro s q p
  unfold setIdentityService
  split
  · split <;> rfl
  · rfl

theorem setLaneService_onQueue : ServesOnAnyQueue setLaneService := by
  intro s q p
  unfold setLaneService
  dsimp only
  split
  · rfl
  · split <;> rfl

theorem readTalliesService_onQueue : ServesOnAnyQueue readTalliesService := by
  intro s q p
  unfold readTalliesService
  split
  · rfl
  · split <;> rfl

/-! ### Every command -/

/-- Two outcomes are the same next state, the second under a queue. -/
inductive CompletesOn (q : List Instr) : (o o' : Host.Outcome State Fault Refusal) → Prop
  | next (s : State) : CompletesOn q (.next s) (.next (s.onQueue q))

theorem CompletesOn.exists_next {q : List Instr} {o o' : Host.Outcome State Fault Refusal} (h : CompletesOn q o o') :
    ∃ t, o = .next t ∧ o' = .next (t.onQueue q) := by
  cases h with
  | next s => exact ⟨s, rfl, rfl⟩

theorem CompletesOn.of_eq {q : List Instr} {s t : State} (h : t = s.onQueue q) : CompletesOn q (.next s) (.next t) := by
  rw [h]
  exact .next s

section
variable (s : State) (q : List Instr)

theorem execReplySent_completesOn : CompletesOn q (execReplySent s) (execReplySent (s.onQueue q)) := by
  unfold execReplySent
  dsimp only
  split
  · split <;> exact .next _
  · exact .next _

theorem execServiceArbiterChoice_completesOn :
    CompletesOn q (execServiceArbiterChoice s) (execServiceArbiterChoice (s.onQueue q)) := by
  unfold execServiceArbiterChoice
  rw [s.mayChoose_onQueue q, s.settleCommands_onQueue q]
  split
  · dsimp only
    rw [s.settleCommands.nextService_onQueue q]
    split
    · exact .of_eq (State.choose_onQueue ..)
    · exact .next _
  · exact .next _

theorem execWarmReset_completesOn (pins : WarmPins) :
    CompletesOn q (execWarmReset pins s) (execWarmReset pins (s.onQueue q)) := by
  unfold execWarmReset
  rw [s.settleAll_onQueue q, s.warmReset_onQueue q pins, s.settleAll.warmReset_onQueue q pins]
  dsimp only
  split
  · exact .next _
  · split <;> exact .next _

theorem execBackfillStep_completesOn : CompletesOn q (execBackfillStep s) (execBackfillStep (s.onQueue q)) := by
  unfold execBackfillStep
  rw [s.serving_onQueue q, s.journalHasRoom_onQueue q]
  dsimp only
  split <;> exact .next _

/-- Every command answers a next state, the same under another queue but for the queue. -/
theorem exec_completesOn (c : Instr) : CompletesOn q (exec c s) (exec c (s.onQueue q)) := by
  have served (k : UplinkKind) {serve : State → List Byte → State × Answer} (hserve : ServesOnAnyQueue serve) :
      CompletesOn q (.next (s.serveUplink k serve)) (.next ((s.onQueue q).serveUplink k serve)) :=
    .of_eq (s.serveUplink_onQueue q k hserve)
  cases c <;> simp only [exec]
  case serviceArbiterChoice => exact execServiceArbiterChoice_completesOn s q
  case warmReset pins => exact execWarmReset_completesOn s q pins
  case backfillStep => exact execBackfillStep_completesOn s q
  case replySent => exact execReplySent_completesOn s q
  case powerOnReset | transferBegin | transferEnd => exact .next _
  case unknownRequest | setClock | readClock | takeJournal | setWatermark | setLinkTimeout | status | restart =>
    exact served _ fun _ _ _ => rfl
  case loadTicket => exact served _ loadTicketService_onQueue
  case dropTicket => exact served _ dropTicketService_onQueue
  case clearTable => exact served _ clearTableService_onQueue
  case queryTicket => exact served _ queryTicketService_onQueue
  case setClass => exact served _ setClassService_onQueue
  case setZone => exact served _ setZoneService_onQueue
  case noteAdmit => exact served _ (noticeService_onQueue noteAdmitFound_onQueue)
  case noteExit => exact served _ (noticeService_onQueue noteExitFound_onQueue)
  case revoke => exact served _ revokeService_onQueue
  case openGate => exact served _ openGateService_onQueue
  case closeGate => exact served _ closeGateService_onQueue
  case setIdentity => exact served _ setIdentityService_onQueue
  case setLane => exact served _ setLaneService_onQueue
  case readTallies => exact served _ readTalliesService_onQueue
  case rstAssertion =>
    unfold execRstAssertion
    rw [s.settleAll_onQueue q]
    dsimp only
    split
    · exact .next _
    · exact .of_eq (s.settleAll.holdReset_onQueue q)
  case venueClockTick =>
    unfold execVenueClockTick
    rw [s.tickClock_onQueue q, s.tickClock.settleDue_onQueue q]
    dsimp only
    split
    · exact .next _
    · exact .of_eq (s.tickClock.settleDue.countTick_onQueue q)
  case evacAssertion =>
    unfold execEvacAssertion State.evacAssertionDue
    dsimp only
    split <;> exact .next _
  case evacRelease =>
    unfold execEvacRelease State.evacReleaseDue
    dsimp only
    split <;> exact .next _
  case encoderEvent n pair =>
    unfold execEncoderEvent
    dsimp only
    split <;> exact .next _
  case armTimerExpiry n =>
    unfold execArmTimerExpiry
    rw [s.settleExpiry_onQueue q n]
    dsimp only
    split <;> exact .next _
  case armCommand =>
    unfold execArmCommand
    dsimp only
    split <;> exact .next _
  case withdrawCommand =>
    unfold execWithdrawCommand
    dsimp only
    split <;> exact .next _
  case linkMonitorTimeout =>
    unfold execLinkMonitorTimeout
    rw [s.settleTimeout_onQueue q]
    dsimp only
    split <;> exact .next _
  case commitCompletion =>
    unfold execCommitCompletion
    rw [s.completionInService_onQueue q]
    split
    · exact .of_eq (State.serveCommit_onQueue ..)
    · exact .next _
  case expiryCompletion =>
    unfold execExpiryCompletion
    rw [s.completionInService_onQueue q]
    split
    · exact .of_eq (State.serveNonCommit_onQueue ..)
    · exact .next _
  case withdrawnCompletion =>
    unfold execWithdrawnCompletion
    rw [s.completionInService_onQueue q]
    split
    · exact .of_eq (State.serveNonCommit_onQueue ..)
    · exact .next _
  case forcedReportService =>
    unfold execForcedReportService
    rw [s.serving_onQueue q]
    split
    · exact .of_eq (congrArg State.finish (State.reportRecordless_onQueue (s.takeForcedReport _) q ..))
    · exact .next _
  case gateEventService =>
    unfold execGateEventService
    rw [s.serving_onQueue q]
    dsimp only
    split
    · rename_i e rest _ _
      exact .of_eq (congrArg State.finish
        (State.reportRecordless_onQueue { s with gc := { s.gc with events := rest } } q ..))
    · exact .next _
  case presentCode =>
    unfold execPresentCode
    rw [s.laneRequestInService_onQueue q]
    dsimp only
    split
    · exact .of_eq (s.servePresentation_onQueue q _ _)
    · exact .next _
  case presentCard =>
    unfold execPresentCard
    rw [s.laneRequestInService_onQueue q]
    dsimp only
    split
    · exact .of_eq (s.servePresentation_onQueue q _ _)
    · exact .next _
  case cancel =>
    unfold execCancel
    rw [s.laneRequestInService_onQueue q]
    dsimp only
    split
    · rw [s.cancelHold_onQueue q]
      exact .next _
    · exact .next _
  case poll =>
    unfold execPoll
    rw [s.laneRequestInService_onQueue q]
    split <;> exact .next _
  case uplinkFrameArrival =>
    unfold execUplinkFrameArrival
    rw [s.arrive_onQueue q]
    dsimp only
    split <;> exact .next _
  case interByteGap =>
    unfold execInterByteGap
    dsimp only
    split <;> exact .next _
  case characterReceived ch =>
    unfold execCharacterReceived
    rw [s.arrive_onQueue q]
    dsimp only
    split <;> exact .next _
  case evacPinChange level =>
    unfold execEvacPinChange
    dsimp only
    split <;> exact .next _

end

end Sys2Proof.Machine

open Sys2Proof Sys2Proof.Machine

/-- Settles O2: each command's meaning under two queues is one state under either. -/
theorem everyCommandCompletes : Obligations.EveryCommandCompletes := by
  intro c s
  obtain ⟨t, ht, hsame⟩ := (exec_completesOn s s.pending c).exists_next
  have hqueue : t = t.onQueue s.pending := next_inj (ht.symm.trans hsame)
  refine ⟨t, ht, by rw [hqueue], fun q => ?_⟩
  obtain ⟨u, hu, hother⟩ := (exec_completesOn s q c).exists_next
  rw [next_inj (ht.symm.trans hu)]
  exact hother
end

section
/-! The commit of an entry hold: the record's side, the zone's and the lane's (R23, R47, R48, R96 to R98,
R100, R159). -/

namespace Sys2Proof.Machine

/-! ### The record -/

section
variable (r : Record) (h : Hold)

/-- A record without a binding takes the hold's UID where its class binds (R23, R98). -/
theorem Record.bindingAfterEntry_eq (c : ClassRecord) :
    r.bindingAfterEntry h c = if r.binding = none ∧ c.bind = true then h.uid else r.binding := by
  unfold Record.bindingAfterEntry
  cases r.binding with
  | none => by_cases hbind : c.bind = true <;> simp [hbind]
  | some u => simp

/-- An entry counts once, and once more for the passage that another gate reported (R21, R98, R100). -/
theorem Record.afterEntryCommit_entries_val (c : ClassRecord) (capture : VenueTime) :
    (r.afterEntryCommit h c capture).entries.val
      = min (r.entries.val + if h.remoteMark = none then 1 else 2) 15 := by
  simp only [Record.afterEntryCommit]
  cases h.remoteMark with
  | none => exact raiseEntries_val _
  | some m =>
    calc (raiseEntries (raiseEntries r.entries)).val
      _ = min (min (r.entries.val + 1) 15 + 1) 15 := by rw [raiseEntries_val, raiseEntries_val]
      _ = min (r.entries.val + 2) 15 := by omega

/-- The whole record that a commit of an entry leaves, a report owed or not (R98, R100). -/
theorem Record.afterEntryCommit_eq (c : ClassRecord) (capture : VenueTime) (owed : Bool) :
    { r.afterEntryCommit h c capture with pendingReport := owed } =
      { r with
        state := if h.revokeMark then .revoked else .inside
        entries := (r.afterEntryCommit h c capture).entries
        lastPassage := some ⟨capture, .lane h.lane⟩
        binding := if r.binding = none ∧ c.bind = true then h.uid else r.binding
        pendingReport := owed } := by
  rw [← r.bindingAfterEntry_eq h c]
  rfl

end

/-! ### The zone and the journal -/

section
variable {h : Hold} {z : ZoneNo}

/-- The reserved place becomes the person counted in, the occupancy saturating at 65,535 (R47, R48). -/
theorem ZoneRecord.release_countIn (x : ZoneRecord) :
    x.release.countIn =
      { x with
        reserved := x.reserved - 1, occupancy := BitVec.ofNat 16 (min (x.occupancy.toNat + 1) 65535) } :=
  x.release.countIn_eq

/-- The record written and the person counted into the zone that the hold reserved, before the report (R97, R98). -/
def State.writeEntryCommit (s : State) (slot : Nat) (r : Record) (h : Hold) (z : ZoneNo) (capture : VenueTime) :
    State :=
  (s.setRecord slot (r.afterEntryCommit h (s.classOf r) capture)).modifyZone z fun x => x.release.countIn

/-- The commit of an entry hold writes the record, counts the person in and reports an ADMISSION, or a DOUBLE where
another gate reported the ticket too (R97, R98, R100). -/
theorem State.endCommit_entry (s : State) (slot : Nat) (r : Record) (capture : VenueTime)
    (hdirection : h.direction = .IN) (hreserved : h.reservedZone = some z) :
    s.endCommit slot r h capture =
      (s.writeEntryCommit slot r h z capture).report slot (r.afterEntryCommit h (s.classOf r) capture)
        (if h.remoteMark = none then .admission else .double) (.lane h.lane) capture z := by
  simp only [State.endCommit, hdirection, State.modifyReservedZone_some _ _ _ z hreserved, hreserved,
    Option.getD_some]
  cases h.remoteMark <;> rfl

theorem State.endCommit_entry_zones (s : State) (slot : Nat) (r : Record) (capture : VenueTime)
    (hdirection : h.direction = .IN) (hreserved : h.reservedZone = some z) :
    (s.endCommit slot r h capture).zones = s.zones.set z
      { s.zones.get z with
        reserved := (s.zones.get z).reserved - 1
        occupancy := BitVec.ofNat 16 (min ((s.zones.get z).occupancy.toNat + 1) 65535) } := by
  rw [s.endCommit_entry slot r capture hdirection hreserved, State.report_frame _ _ _ _ _ _ _ _ rfl,
    ← ZoneRecord.release_countIn]
  rfl

end

end Sys2Proof.Machine

open Sys2Proof Sys2Proof.Machine

/-- Settles O33: the record's side of the end is a report over the record written and the person counted in, and the
lane's side changes nothing of it. -/
theorem entryCommitAdmits : Obligations.EntryCommitAdmits := by
  intro n capture ref r h z s htakes hcompletion href hget hstate hdirection hreserved
  have hheld := (State.heldAt_eq_some s n ref.slot r h).mpr ⟨ref, href, rfl, hget, hstate⟩
  have hclosed := (s.endCommit_holdEnds ref.slot r h capture).closeHold_finish (n := n) .committed r.ticket
  have hexec := exec_commitCompletion_of_held htakes hcompletion hheld
  obtain ⟨hrecord, hothers, hreports⟩ := State.report_spec s (s.writeEntryCommit ref.slot r h z capture) ref.slot
    (r.afterEntryCommit h (s.classOf r) capture) (if h.remoteMark = none then .admission else .double)
    (.lane h.lane) capture z (by simp [State.writeEntryCommit, hget]) ⟨rfl, rfl, rfl⟩
  have hzones := s.endCommit_entry_zones ref.slot r capture hdirection hreserved
  rw [← s.endCommit_entry ref.slot r capture hdirection hreserved] at hrecord hothers hreports
  rw [hclosed] at hexec
  generalize s.endCommit ref.slot r h capture = u at hexec hrecord hothers hreports hzones
  refine ⟨_, _, hexec, hrecord, ?_, fun k hk => (hothers k hk).trans ?_,
    r.afterEntryCommit_eq h (s.classOf r) capture _, r.afterEntryCommit_entries_val h (s.classOf r) capture, hreports⟩
  · rw [hzones]
  · simp [State.writeEntryCommit, Ne.symm hk]
end

section
/-! The arm and withdraw commands by lane state (R92, R93, R107), and FREE and unFREE at every lane unit on a change of
EVAC (R109, R110, R125, R173, R174). -/

namespace Sys2Proof.Machine

/-! ### Lane states -/

/-- The two lane states under a hold (R126). -/
theorem LaneState.underHold_iff (st : LaneState) : st.underHold = true ↔ st = .armed ∨ st = .turning := by
  cases st <;> decide

theorem Role.restingState_eq (r : Role) : r.restingState = if r = .off then .closed else .locked := by
  cases r <;> rfl

/-! ### What a lane unit takes -/

section
variable {lu : LaneUnit}

theorem LaneUnit.takeArm_of_locked (hstate : lu.state = .locked) (d : Side) :
    lu.takeArm d =
      { lu with
        hold := some d, armTimer := some (lu.live.window * 256), overdue := false }.inState .armed := by
  rw [LaneUnit.takeArm_eq, if_pos hstate]
  rfl

/-- At FREE the hold is begun and withdrawn at once (R93). -/
theorem LaneUnit.takeArm_of_free (hstate : lu.state = .free) (hcompletion : lu.completion = none) (d : Side) :
    lu.takeArm d = { lu with hold := some d, overdue := false, completion := some .withdrawn } := by
  rw [LaneUnit.takeArm_eq, if_neg (by simp [hstate]), if_pos hstate, hcompletion, Option.none_or]

/-- An ARMED lane relocks and raises a withdrawn completion (R107). -/
theorem LaneUnit.takeWithdraw_of_armed (hstate : lu.state = .armed) (hcompletion : lu.completion = none) :
    lu.takeWithdraw = { lu with armTimer := none, completion := some .withdrawn }.inState .locked := by
  simp only [LaneUnit.takeWithdraw, hstate, LaneUnit.relock_eq_inState, LaneUnit.raise, LaneUnit.inState,
    hcompletion, Option.none_or]

theorem LaneUnit.takeWithdraw_of_ne_armed (hstate : lu.state ≠ .armed) : lu.takeWithdraw = lu := by
  unfold LaneUnit.takeWithdraw
  split
  · contradiction
  · rfl

end

/-- unFREE sends a FREE lane to its role's resting state and leaves every other lane (R110, R174). -/
theorem LaneUnit.takeUnfree_eq (lu : LaneUnit) :
    lu.takeUnfree =
      if lu.state = .free then lu.inState (if lu.role = .off then .closed else .locked) else lu := by
  unfold LaneUnit.takeUnfree
  split
  case h_1 hfree => rw [if_pos hfree, LaneUnit.goTo_eq_inState, Role.restingState_eq]
  case h_2 hnot => rw [if_neg hnot]

/-! ### The steps of the Gate Controller -/

section
variable {s : State}

theorem exec_evacAssertion_of_due (hrst : s.rstAsserted = false) (hdue : s.gc.evacDue = true)
    (haccepted : s.gc.accepted = false) : exec .evacAssertion s = .next s.assertEvac := by
  simp [exec, execEvacAssertion, State.evacAssertionDue, hrst, hdue, haccepted]

theorem exec_evacRelease_of_due (hrst : s.rstAsserted = false) (hdue : s.gc.evacDue = true)
    (haccepted : s.gc.accepted = true) : exec .evacRelease s = .next s.releaseEvac := by
  simp [exec, execEvacRelease, State.evacReleaseDue, hrst, hdue, haccepted]

theorem State.assertEvac_lane (s : State) (n : Lane) : s.assertEvac.lanes.get n = (s.lanes.get n).takeFree :=
  get_map _ _ n

theorem State.releaseEvac_lane (s : State) (n : Lane) : s.releaseEvac.lanes.get n = (s.lanes.get n).takeUnfree :=
  get_map _ _ n

end

end Sys2Proof.Machine

open Sys2Proof Sys2Proof.Machine

/-- Settles O28: the oldest command in flight is taken at its lane unit, by the unit's state. -/
theorem laneCommandsActByLaneState : Obligations.LaneCommandsActByLaneState := by
  rintro n s _ rest hrst rfl
  refine ⟨fun d hfront hlocked => ?_, fun d hfront hfree hcompletion => ?_, fun hfront harmed hcompletion => ?_,
    fun hfront hother => ?_⟩
  · rw [exec_armCommand_of_front hrst hfront, ← LaneUnit.takeArm_of_locked hlocked]
    rfl
  · rw [exec_armCommand_of_front hrst hfront, ← LaneUnit.takeArm_of_free hfree hcompletion]
    rfl
  · rw [exec_withdrawCommand_of_front hrst hfront, ← LaneUnit.takeWithdraw_of_armed harmed hcompletion]
    rfl
  · rw [exec_withdrawCommand_of_front hrst hfront, State.takeLaneCommand, LaneUnit.takeWithdraw_of_ne_armed hother,
      State.setLane, set_get_self]

/-- Settles O29: the change of EVAC reaches the Gate Controller and, lane by lane, every lane unit. -/
theorem evacFreesAndReleasesTheLanes : Obligations.EvacFreesAndReleasesTheLanes := by
  refine ⟨fun s hrst hdue haccepted => ?_, fun s hrst hdue haccepted => ?_⟩
  · refine ⟨_, exec_evacAssertion_of_due hrst hdue haccepted, rfl, fun n => ⟨_, rfl, ?_⟩⟩
    simp only [State.assertEvac_lane, LaneUnit.takeFree_eq, LaneState.underHold_iff]
  · refine ⟨_, exec_evacRelease_of_due hrst hdue haccepted, rfl, fun n => ⟨_, rfl, ?_⟩⟩
    rw [State.releaseEvac_lane, LaneUnit.takeUnfree_eq]
end

section

open Sys2Proof Sys2Proof.Machine

/-- Settles O14: the rotors, the gate and the locks are parts of the invariant that every step keeps. -/
theorem stepKeepsLaneUnitsAndGate : Obligations.StepKeepsLaneUnitsAndGate := by
  intro s t hs hstep
  have ht := stepKeepsTheInvariant s t hs hstep
  exact ⟨ht.rotors, ht.gate, ht.locks⟩

end

section
/-! RST and the EVAC pin (R126, R172, R180), the tick over what is due (R51, R125, R178), and the part that takes no
service (R136, R195, R205, R206). -/

namespace Sys2Proof.Machine

/-! ### What is due before a tick -/

section
variable {s : State}

/-- Once what ticks made due has been taken, none of it is due (R125, R172, R178). -/
theorem State.settleDue_done (hrst : s.rstAsserted = false) :
    (∀ n : Lane, (s.settleDue.lanes.get n).armTimer ≠ some 0) ∧ s.settleDue.gc.timeoutDue = false ∧
      s.settleDue.gc.evacDue = false := by
  have htimers (n : Lane) := State.foldl_settleExpiry_armTimer lanesAscending s n (.inl (mem_lanesAscending n))
  obtain ⟨hexpiry, -⟩ := State.foldl_settleExpiry_frame lanesAscending s
  rw [State.settleDue]
  generalize lanesAscending.foldl State.settleExpiry s = u at hexpiry htimers
  obtain ⟨htimeout, -, hlanes, hdone⟩ := u.settleTimeout_frame
  obtain ⟨-, -, hkept⟩ := u.settleTimeout.settleEvac_frame
  have hrst' := (hexpiry.trans htimeout).rstAsserted.trans hrst
  exact ⟨fun n => State.settleEvac_armTimer n (by rw [hlanes]; exact htimers n), hkept.trans hdone,
    State.settleEvac_evacDue hrst'⟩

theorem State.settleExpiry_tickClock (s : State) (n : Lane) :
    s.tickClock.settleExpiry n = (s.settleExpiry n).tickClock := by
  rw [State.settleExpiry, State.settleExpiry, apply_ite State.tickClock]
  rfl

theorem State.foldl_settleExpiry_tickClock (l : List Lane) (s : State) :
    l.foldl State.settleExpiry s.tickClock = (l.foldl State.settleExpiry s).tickClock := by
  induction l generalizing s with
  | nil => rfl
  | cons n l ih => rw [List.foldl_cons, State.settleExpiry_tickClock, ih, List.foldl_cons]

theorem State.settleTimeout_tickClock (s : State) : s.tickClock.settleTimeout = s.settleTimeout.tickClock := by
  rw [State.settleTimeout, State.settleTimeout, apply_ite State.tickClock]
  rfl

theorem State.settleEvac_tickClock (s : State) : s.tickClock.settleEvac = s.settleEvac.tickClock := by
  rw [State.settleEvac, State.settleEvac, apply_ite State.tickClock, apply_ite State.tickClock]
  rfl

/-- What is due does not ask the Venue Clock. -/
theorem State.settleDue_tickClock (s : State) : s.tickClock.settleDue = s.settleDue.tickClock := by
  rw [State.settleDue, State.foldl_settleExpiry_tickClock, State.settleTimeout_tickClock, State.settleEvac_tickClock,
    State.settleDue]

theorem exec_venueClockTick_of_running (hrst : s.rstAsserted = false) :
    exec .venueClockTick s = .next s.settleDue.tickClock.countTick := by
  simp only [exec, execVenueClockTick, hrst, Bool.false_eq_true, if_false, State.settleDue_tickClock]

/-! ### RST and the EVAC pin -/

theorem exec_rstAssertion_of_running (hrst : s.rstAsserted = false) :
    exec .rstAssertion s = .next s.settleAll.holdReset := by
  simp only [exec, execRstAssertion, hrst, Bool.false_eq_true, if_false]

theorem State.holdReset_lane (s : State) (n : Lane) :
    s.holdReset.lanes.get n = { s.lanes.get n with lockIn := s.evacPin, lockOut := s.evacPin } :=
  get_map _ _ n

theorem State.followPin_lane (s : State) (level : Bool) (n : Lane) :
    (s.mapLanes (LaneUnit.followPin level)).lanes.get n
      = { s.lanes.get n with lockIn := level, lockOut := level } :=
  get_map _ _ n

/-! ### No service is taken -/

/-- The services of the items that are no uplink request (R60). -/
def ownServices : List Instr :=
  [.commitCompletion, .expiryCompletion, .withdrawnCompletion, .forcedReportService, .gateEventService,
    .backfillStep, .presentCode, .presentCard, .cancel, .poll]

/-- The services of the uplink requests of the catalogue (R207). -/
def cataloguedServices : List Instr :=
  [.loadTicket, .dropTicket, .clearTable, .queryTicket, .setClass, .setZone, .setClock, .readClock, .noteAdmit,
    .noteExit, .revoke, .takeJournal, .setWatermark, .openGate, .closeGate, .setIdentity, .setLinkTimeout, .setLane,
    .readTallies, .status, .restart]

theorem serviceCommands_eq :
    serviceCommands = ownServices ++ .unknownRequest :: (cataloguedServices ++ [.serviceArbiterChoice]) := rfl

/-- Nothing is served while no item may be taken (R180, R205). -/
theorem State.serveUplink_of_notServing (h : s.serving = none) (k : UplinkKind)
    (serve : State → List Byte → State × Answer) : s.serveUplink k serve = s :=
  State.serveUplink_of_other s k serve fun _ hserving => by rw [h] at hserving; cases hserving

/-- The services that are no uplink request's change nothing where the item that may be taken is none of theirs
(R60). -/
theorem exec_ownService_stays (hserving : s.serving = none ∨ s.serving = some .uplinkRequest) {c : Instr}
    (hc : c ∈ ownServices) : exec c s = .next s := by
  have hcompletion : s.completionInService = none := by
    obtain h | h := hserving <;> simp only [State.completionInService, h]
  have hlane : s.laneRequestInService = none := by
    obtain h | h := hserving <;> simp only [State.laneRequestInService, h]
  have hforced : exec .forcedReportService s = .next s := by
    obtain h | h := hserving <;> simp only [exec, execForcedReportService, h]
  have hevent : exec .gateEventService s = .next s := by
    obtain h | h := hserving <;> simp only [exec, execGateEventService, h]
  have hbackfill : exec .backfillStep s = .next s := by
    obtain h | h := hserving <;> simp only [exec, execBackfillStep, h]
  simp only [ownServices, List.mem_cons, List.not_mem_nil, or_false] at hc
  obtain rfl | rfl | rfl | rfl | rfl | rfl | rfl | rfl | rfl | rfl := hc
  · simp only [exec, execCommitCompletion, hcompletion]
  · simp only [exec, execExpiryCompletion, hcompletion]
  · simp only [exec, execWithdrawnCompletion, hcompletion]
  · exact hforced
  · exact hevent
  · exact hbackfill
  · simp only [exec, execPresentCode, hlane]
  · simp only [exec, execPresentCard, hlane]
  · simp only [exec, execCancel, hlane]
  · simp only [exec, execPoll, hlane]

/-- A service of a catalogued request changes nothing where none of these requests is served (R199, R200). -/
theorem exec_uplinkService_stays
    (huplink : ∀ (k : UplinkKind) serve, k ≠ .unknown → s.serveUplink k serve = s) {c : Instr}
    (hc : c ∈ cataloguedServices) : exec c s = .next s := by
  simp only [cataloguedServices, List.mem_cons, List.not_mem_nil, or_false] at hc
  obtain rfl | rfl | rfl | rfl | rfl | rfl | rfl | rfl | rfl | rfl | rfl | rfl | rfl | rfl | rfl | rfl | rfl | rfl |
    rfl | rfl | rfl := hc <;> exact congrArg _ (huplink _ _ UplinkKind.noConfusion)

/-- Every service but UNKNOWN_REQUEST changes nothing where no choice may be made and no item but an uplink request
outside the catalogue may be taken. -/
theorem exec_service_stays (hchoice : s.mayChoose = false)
    (hserving : s.serving = none ∨ s.serving = some .uplinkRequest)
    (huplink : ∀ (k : UplinkKind) serve, k ≠ .unknown → s.serveUplink k serve = s) {c : Instr}
    (hc : c ∈ serviceCommands) (hknown : c ≠ .unknownRequest) : exec c s = .next s := by
  rw [serviceCommands_eq, List.mem_append, List.mem_cons, List.mem_append, List.mem_singleton] at hc
  obtain hown | rfl | hrequest | rfl := hc
  · exact exec_ownService_stays hserving hown
  · exact absurd rfl hknown
  · exact exec_uplinkService_stays huplink hrequest
  · simp only [exec, execServiceArbiterChoice, hchoice, Bool.false_eq_true, if_false]

/-- Under RST, and from a RESTART service on, no service is taken and none is chosen (R180, R205). -/
theorem exec_service_of_stopped (h : s.rstAsserted = true ∨ s.restarting = true) {c : Instr}
    (hc : c ∈ serviceCommands) : exec c s = .next s := by
  have hserving : s.serving = none := by
    obtain h | h := h <;> simp [State.serving, h]
  have hchoice : s.mayChoose = false := by
    obtain h | h := h <;> simp [State.mayChoose, h]
  have huplink (k : UplinkKind) (serve) : s.serveUplink k serve = s := State.serveUplink_of_notServing hserving k serve
  by_cases hunknown : c = .unknownRequest
  · subst hunknown
    exact congrArg _ (huplink .unknown _)
  · exact exec_service_stays hchoice (.inl hserving) (fun k serve _ => huplink k serve) hc hunknown

/-! ### Transfers under RST -/

/-- A transfer under RST takes in nothing at its end (R195). -/
theorem Port.endTransfer_of_held (p : Port) {rst : Bool} (hrst : rst = true) (bits : List Bool) :
    p.endTransfer rst bits = { p with transfer := .none } := by
  subst hrst
  unfold Port.endTransfer
  split <;> rfl

/-- The start of a transfer changes nothing else of its port (R192, R195). -/
theorem Port.beginTransfer_frame (p : Port) (rst : Bool) :
    p.beginTransfer rst = { p with transfer := (p.beginTransfer rst).transfer } := by
  unfold Port.beginTransfer
  split <;> rfl

end

end Sys2Proof.Machine

open Sys2Proof Sys2Proof.Machine

/-- Settles O6: RST takes what is due and then holds the part; the held part's locks follow each level of the pin. -/
theorem resetAndEvacPinsDriveTheLocks : Obligations.ResetAndEvacPinsDriveTheLocks := by
  refine ⟨fun s hrst hnothing => ?_, fun s t hrst hrun => ?_, fun level s hrst => ?_, fun level s hrst => ?_⟩
  · refine ⟨s.holdReset, ?_, rfl, s.holdReset_lane⟩
    rw [exec_rstAssertion_of_running hrst, State.settleAll_of_nothing s hnothing]
  · rw [runCommands_settleAll hrst] at hrun
    obtain rfl := next_inj hrun
    obtain ⟨hframe, hnothing⟩ := State.settleAll_nothingDue hrst
    have hrst' := hframe.rstAsserted.trans hrst
    refine ⟨?_, hrst', hnothing⟩
    rw [exec_rstAssertion_of_running hrst, exec_rstAssertion_of_running hrst', State.settleAll_of_nothing _ hnothing]
  · refine ⟨{ s with evacPin := level }.mapLanes (LaneUnit.followPin level), ?_, rfl, State.followPin_lane _ level⟩
    simp only [exec, execEvacPinChange, hrst, if_true]
  · simp only [exec, execEvacPinChange, hrst, Bool.false_eq_true, if_false]

/-- Settles O8: the due commands are the tick's own settling, which does not ask the clock and leaves nothing due. -/
theorem tickTakesWhatIsDueFirst : Obligations.TickTakesWhatIsDueFirst := by
  intro s t hrst hrun
  rw [runCommands_dueCommands hrst] at hrun
  obtain rfl := next_inj hrun
  obtain ⟨htimers, htimeout, hevac⟩ := State.settleDue_done hrst
  have hrst' : s.settleDue.rstAsserted = false := (s.settleDue_effects hrst).2
  refine ⟨?_, htimers, htimeout, hevac⟩
  rw [exec_venueClockTick_of_running hrst, exec_venueClockTick_of_running hrst',
    State.settleDue_of_nothing _ htimers htimeout hevac]

/-- Settles O7: no item may be taken or chosen, and each other command asks RST first. -/
theorem heldPartTakesNoStep : Obligations.HeldPartTakesNoStep := by
  refine ⟨fun s hrestarting c hc => exec_service_of_stopped (.inr hrestarting) hc, fun s hrst =>
    ⟨fun c hc => exec_service_of_stopped (.inl hrst) hc, fun n pair => ⟨?_, ?_⟩, fun c hc => ?_, fun ch => ?_,
      ⟨s.tickClock, ?_, rfl, rfl⟩, fun n bits =>
        ⟨⟨_, ((s.ports.get n).beginTransfer s.rstAsserted).transfer, rfl, ?_⟩, ?_⟩⟩⟩
  · simp only [exec, execEncoderEvent, hrst, true_or, if_true]
  · simp only [exec, execArmTimerExpiry, hrst, if_true]
  · simp only [List.mem_cons, List.not_mem_nil, or_false] at hc
    obtain rfl | rfl | rfl | rfl | rfl | rfl | rfl | rfl | rfl := hc
    · simp only [exec, execRstAssertion, hrst, if_true]
    · simp [exec, execEvacAssertion, State.evacAssertionDue, hrst]
    · simp [exec, execEvacRelease, State.evacReleaseDue, hrst]
    · simp only [exec, execLinkMonitorTimeout, hrst, if_true]
    · simp only [exec, execArmCommand, hrst]
    · simp only [exec, execWithdrawCommand, hrst]
    · simp only [exec, execUplinkFrameArrival, hrst, if_true]
    · simp only [exec, execInterByteGap, hrst, if_true]
    · simp only [exec, execReplySent, hrst, Bool.true_or]
  · simp only [exec, execCharacterReceived, hrst, if_true]
  · simp only [exec, execVenueClockTick, hrst, if_true]
  · rw [State.setPort, Port.beginTransfer_frame]
  · rw [exec, execTransferEnd, Port.endTransfer_of_held _ hrst, State.setPort]
end

section
/-! Encoder events: the step that a pair is (R113, R114, R128), the rotor's count (R115, R116), what a step makes of a
lane unit in each lane state (R117 to R124), and the preload after it (R130). -/

namespace Sys2Proof.Machine

/-! ### The step of a pair -/

theorem decodeStep_self (p : EncoderPair) : decodeStep p p = none := by
  obtain ⟨a, b⟩ := p
  revert a b
  decide

/-- A change of both inputs is half the cycle, and no step (R113). -/
theorem decodeStep_of_both {p q : EncoderPair} (ha : q.a ≠ p.a) (hb : q.b ≠ p.b) : decodeStep p q = none := by
  obtain ⟨a, b⟩ := p
  obtain ⟨a', b'⟩ := q
  revert a b a' b'
  decide

section
variable {lu lu' : LaneUnit} {d e : Side} {now : VenueTime} {pair : EncoderPair} {s : State} {n : Lane}

/-- The preload becomes live at A = 0 where nothing is held, and nothing else changes (R130). -/
theorem LaneUnit.settlePreload_eq (lu : LaneUnit) (named : Bool) :
    lu.settlePreload named =
      { lu with
        live := if named = false ∧ lu.hold = none ∧ lu.accumulator = 0 then lu.preload else lu.live } := by
  by_cases h : named = false ∧ lu.hold = none ∧ lu.accumulator = 0
  · rw [LaneUnit.settlePreload, if_pos h, if_pos h, LaneUnit.loadPreload]
  · rw [LaneUnit.settlePreload, if_neg h, if_neg h]

/-- Off the rest, and under a hold, the preload waits (R130). -/
theorem LaneUnit.settlePreload_of_waiting (h : lu.accumulator ≠ 0 ∨ lu.hold ≠ none) (named : Bool) :
    lu.settlePreload named = lu :=
  if_neg fun ⟨_, hhold, hzero⟩ => h.elim (· hzero) (· hhold)

theorem LaneUnit.takePair_of_direction (h : lu.direction? pair = some e) (named : Bool) (now : VenueTime) :
    lu.takePair pair named now = LaneUnit.settlePreload { lu.step e now with reference := pair } named := by
  obtain ⟨e', hdecode, rfl⟩ := Option.map_eq_some_iff.mp h
  rw [LaneUnit.takePair, hdecode]

theorem LaneUnit.takePair_of_phaseError (h : decodeStep lu.reference pair = none) (named : Bool)
    (now : VenueTime) :
    lu.takePair pair named now =
      { lu with reference := pair, tallies := { lu.tallies with phase := lu.tallies.phase + 1 } } := by
  rw [LaneUnit.takePair, h]
  rfl

theorem LaneUnit.ne_reference_of_direction (h : lu.direction? pair = some e) : pair ≠ lu.reference := by
  rintro rfl
  rw [LaneUnit.direction?, decodeStep_self] at h
  cases h

/-- A pair that is not the reference is taken at a running part (R113, R136). -/
theorem exec_encoderEvent_of_ne (hrst : s.rstAsserted = false) (hne : pair ≠ (s.lanes.get n).reference) :
    exec (.encoderEvent n pair) s =
      .next (s.setLane n ((s.lanes.get n).takePair pair (s.contexts.get n).holdRef.isSome s.clock.time)) := by
  have hnot : ¬(s.rstAsserted = true ∨ pair = (s.lanes.get n).reference) := by simp [hrst, hne]
  exact if_neg hnot

/-- A step: the lane unit steps, and the preload may become live (R113, R130). -/
theorem exec_encoderEvent_of_direction (hrst : s.rstAsserted = false)
    (hdirection : (s.lanes.get n).direction? pair = some e) :
    exec (.encoderEvent n pair) s =
      .next (s.setLane n (LaneUnit.settlePreload
        { (s.lanes.get n).step e s.clock.time with reference := pair } (s.contexts.get n).holdRef.isSome)) := by
  rw [exec_encoderEvent_of_ne hrst (LaneUnit.ne_reference_of_direction hdirection),
    LaneUnit.takePair_of_direction hdirection]

/-- A step after which the preload waits leaves what it makes of the lane unit (R130). -/
theorem exec_encoderEvent_of_waiting (hrst : s.rstAsserted = false)
    (hdirection : (s.lanes.get n).direction? pair = some e)
    (hstep : (s.lanes.get n).step e s.clock.time = lu) (hwaiting : lu.accumulator ≠ 0 ∨ lu.hold ≠ none) :
    exec (.encoderEvent n pair) s = .next (s.setLane n { lu with reference := pair }) := by
  have hwaiting' : ({ lu with reference := pair } : LaneUnit).accumulator ≠ 0 ∨
      ({ lu with reference := pair } : LaneUnit).hold ≠ none := hwaiting
  rw [exec_encoderEvent_of_direction hrst hdirection, hstep, LaneUnit.settlePreload_of_waiting hwaiting']

/-! ### The rotor's count (R115 to R117) -/

theorem accumulate_of_inside {a : Int} (hlow : -95 ≤ a + e.sign) (hhigh : a + e.sign ≤ 95) :
    accumulate a e = a + e.sign :=
  if_neg (by unfold Config.countsPerArm; omega)

/-- A step keeps the counted flag but for the rest (R116). -/
theorem LaneUnit.move_counted_eq (lu : LaneUnit) (e : Side) :
    (lu.move e).counted = (lu.counted && decide ((lu.move e).accumulator ≠ 0)) := by
  have hne (a : Int) : (a != 0) = decide (a ≠ 0) := Bool.eq_iff_iff.mpr (by simp)
  exact congrArg (lu.counted && ·) (hne _)

/-- A step to a count inside the arm and off the rest moves A alone (R115, R116). -/
theorem LaneUnit.move_of_inside (hlow : -95 ≤ lu.accumulator + e.sign) (hhigh : lu.accumulator + e.sign ≤ 95)
    (hzero : lu.accumulator + e.sign ≠ 0) : lu.move e = { lu with accumulator := lu.accumulator + e.sign } := by
  have hcounted : (lu.counted && lu.accumulator + e.sign != 0) = lu.counted := by simp [hzero]
  rw [LaneUnit.move, accumulate_of_inside hlow hhigh, hcounted]

/-- A step to the rest, by counting back or by the re-zero, clears the counted flag (R115, R116). -/
theorem LaneUnit.move_of_rest (h : accumulate lu.accumulator e = 0) :
    lu.move e = { lu with accumulator := 0, counted := false } := by
  rw [LaneUnit.move, h, bne_self_eq_false, Bool.and_false]

theorem LaneUnit.reaches_iff :
    lu.reaches e = true ↔ lu.counted = false ∧ e.sign * (lu.accumulator + e.sign) = lu.live.threshold := by
  simp [LaneUnit.reaches]

/-- The threshold lies inside the arm and off the rest (R115, R131). -/
theorem LaneUnit.reaches_inside (hlive : lu.live.Ok) (h : lu.reaches e = true) :
    -95 ≤ lu.accumulator + e.sign ∧ lu.accumulator + e.sign ≤ 95 ∧ lu.accumulator + e.sign ≠ 0 := by
  obtain ⟨-, hreached⟩ := LaneUnit.reaches_iff.mp h
  obtain ⟨-, -, hlow, hhigh⟩ := hlive
  unfold Config.minThreshold at hlow
  unfold Config.maxThreshold at hhigh
  cases e <;> dsimp only [Side.sign] at hreached ⊢ <;> omega

theorem LaneUnit.reaches_ne_rest (hlive : lu.live.Ok) (h : lu.reaches e = true) : lu.accumulator + e.sign ≠ 0 := by
  obtain ⟨-, -, hzero⟩ := LaneUnit.reaches_inside hlive h
  exact hzero

theorem LaneUnit.move_of_reaches (hlive : lu.live.Ok) (h : lu.reaches e = true) :
    lu.move e = { lu with accumulator := lu.accumulator + e.sign } := by
  obtain ⟨hlow, hhigh, hzero⟩ := LaneUnit.reaches_inside hlive h
  exact LaneUnit.move_of_inside hlow hhigh hzero

/-! ### What a step does in each lane state (R118 to R124) -/

/-- A passage in direction `e` is free: at a FREE lane, and out of a LOCKED lane under FREE_EXIT (R118, R121). -/
abbrev LaneUnit.PassesFreely (lu : LaneUnit) (e : Side) : Prop :=
  lu.state = .free ∨ (lu.state = .locked ∧ lu.role = .freeExit ∧ e = .OUT)

/-- What a step makes of a lane unit, whatever its count and its settings; `LaneUnit.Stepped` says more of a
safe one. -/
inductive LaneUnit.StepsTo (lu : LaneUnit) (e : Side) (now : VenueTime) : LaneUnit → Prop
  | moves : lu.StepsTo e now (lu.move e)
  | forced (hreaches : lu.reaches e = true) : lu.StepsTo e now (lu.move e).forcedPassage
  | free (hreaches : lu.reaches e = true) (hfree : lu.PassesFreely e) : lu.StepsTo e now (lu.move e).freePassage
  | commits (hreaches : lu.reaches e = true) (d : Side) : lu.StepsTo e now ((lu.move e).commitPassage d now)
  | goes (st : LaneState) : lu.StepsTo e now ((lu.move e).goTo st)
  | expires : lu.StepsTo e now ((lu.move e).relock.raise .expiry)

theorem LaneUnit.stepArmed_stepsTo (lu : LaneUnit) (d e : Side) (now : VenueTime) :
    lu.StepsTo e now (lu.stepArmed d e now) := by
  unfold LaneUnit.stepArmed
  dsimp only
  split
  · split
    · split
      · exact .commits ‹_› d
      · exact .goes .turning
    · exact .moves
  · split
    · exact .forced ‹_›
    · exact .moves

theorem LaneUnit.stepTurning_stepsTo (lu : LaneUnit) (d e : Side) (now : VenueTime) :
    lu.StepsTo e now (lu.stepTurning d e now) := by
  unfold LaneUnit.stepTurning
  dsimp only
  split
  case isTrue hcommit =>
    obtain ⟨-, hreaches⟩ := hcommit
    exact .commits hreaches d
  case isFalse =>
    split
    · split
      · exact .expires
      · exact .goes .armed
    · exact .moves

theorem LaneUnit.step_stepsTo (lu : LaneUnit) (e : Side) (now : VenueTime) : lu.StepsTo e now (lu.step e now) := by
  unfold LaneUnit.step
  dsimp only
  split
  case h_1 =>
    split
    · exact .forced ‹_›
    · exact .moves
  case h_2 _ hlocked =>
    split
    case isTrue hreaches =>
      split
      case isTrue hexit => exact .free hreaches (.inr ⟨hlocked, hexit⟩)
      case isFalse => exact .forced hreaches
    case isFalse => exact .moves
  case h_3 => exact lu.stepArmed_stepsTo _ e now
  case h_4 => exact lu.stepTurning_stepsTo _ e now
  case h_5 _ hfree =>
    split
    · exact .free ‹_› (.inl hfree)
    · exact .moves
  case h_6 => exact .moves

/-- Every step leaves the count of R115, and the role, the hold and the settings as they are. -/
theorem LaneUnit.StepsTo.frame (h : lu.StepsTo e now lu') :
    lu'.accumulator = accumulate lu.accumulator e ∧ lu'.role = lu.role ∧ lu'.hold = lu.hold ∧
      lu'.live = lu.live ∧ lu'.preload = lu.preload := by
  cases h <;> exact ⟨rfl, rfl, rfl, rfl, rfl⟩

/-- At rest the counted flag is clear: no passage happens there (R116). -/
theorem LaneUnit.StepsTo.counted_of_rest (h : lu.StepsTo e now lu') (hlive : lu.live.Ok)
    (hzero : lu'.accumulator = 0) : lu'.counted = false := by
  obtain ⟨haccumulator, -⟩ := h.frame
  have hrest : accumulate lu.accumulator e = 0 := haccumulator.symm.trans hzero
  have hmoved : (lu.move e).counted = false := by rw [LaneUnit.move_of_rest hrest]
  have hnot (hreaches : lu.reaches e = true) : False := by
    obtain ⟨hlow, hhigh, hne⟩ := LaneUnit.reaches_inside hlive hreaches
    exact hne ((accumulate_of_inside hlow hhigh).symm.trans hrest)
  cases h with
  | moves => exact hmoved
  | forced hreaches => exact (hnot hreaches).elim
  | free hreaches => exact (hnot hreaches).elim
  | commits hreaches => exact (hnot hreaches).elim
  | goes st => exact hmoved
  | expires => exact hmoved

/-- A step that changes FREE is a free passage (R124). -/
theorem LaneUnit.StepsTo.free_of_ne (h : lu.StepsTo e now lu') (hne : lu'.tallies.free ≠ lu.tallies.free) :
    lu.reaches e = true ∧ lu.PassesFreely e ∧ lu'.tallies.free = lu.tallies.free + 1 := by
  cases h with
  | free hreaches hfree => exact ⟨hreaches, hfree, rfl⟩
  | commits hreaches d => exact absurd (by cases d <;> rfl) hne
  | moves => exact absurd rfl hne
  | forced => exact absurd rfl hne
  | goes => exact absurd rfl hne
  | expires => exact absurd rfl hne

theorem Side.opposite_ne (e : Side) : e ≠ e.opposite := by cases e <;> exact Side.noConfusion

theorem Side.eq_opposite_of_ne (h : e ≠ d) : e = d.opposite := by
  cases e <;> cases d
  · exact absurd rfl h
  · rfl
  · rfl
  · exact absurd rfl h

/-- With no passage in CLOSED, LOCKED and FREE a step moves the rotor alone (R118, R121). -/
theorem LaneUnit.step_of_resting (hstate : lu.state = .closed ∨ lu.state = .locked ∨ lu.state = .free)
    (hnot : ¬lu.reaches e = true) : lu.step e now = lu.move e := by
  obtain h | h | h := hstate <;> simp only [LaneUnit.step, h, if_neg hnot]

theorem LaneUnit.step_of_armed (hstate : lu.state = .armed) (hhold : lu.hold = some d) :
    lu.step e now = lu.stepArmed d e now := by
  simp only [LaneUnit.step, hstate, hhold]

theorem LaneUnit.step_of_turning (hstate : lu.state = .turning) (hhold : lu.hold = some d) :
    lu.step e now = lu.stepTurning d e now := by
  simp only [LaneUnit.step, hstate, hhold]

/-- In ARMED a step forward below the start threshold moves the rotor alone (R119). -/
theorem LaneUnit.stepArmed_of_short (hshort : e.sign * (lu.move e).accumulator < 8) :
    lu.stepArmed e e now = lu.move e := by
  rw [LaneUnit.stepArmed, if_pos rfl, if_neg (by unfold Config.startThreshold; omega)]

/-- In ARMED a step forward to the start threshold starts the turn, if it is no commit (R119). -/
theorem LaneUnit.stepArmed_of_start (hcount : Config.startThreshold ≤ e.sign * (lu.move e).accumulator)
    (hnot : ¬lu.reaches e = true) : lu.stepArmed e e now = (lu.move e).goTo .turning := by
  rw [LaneUnit.stepArmed, if_pos rfl, if_pos hcount, if_neg hnot]

/-- In ARMED a step back that is no passage moves the rotor alone (R119). -/
theorem LaneUnit.stepArmed_of_back (hback : e ≠ d) (hnot : ¬lu.reaches e = true) :
    lu.stepArmed d e now = lu.move e := by
  rw [LaneUnit.stepArmed, if_neg hback, if_neg hnot]

/-- A free passage (R118, R121, R124). -/
theorem LaneUnit.step_of_freePassage (hfree : lu.PassesFreely e) (hreaches : lu.reaches e = true) :
    lu.step e now = (lu.move e).freePassage := by
  obtain h | ⟨h, hexit⟩ := hfree
  · simp only [LaneUnit.step, h, if_pos hreaches]
  · simp only [LaneUnit.step, h, if_pos hreaches, if_pos hexit]

/-- A forced passage (R118, R119, R123). -/
theorem LaneUnit.step_of_forcedPassage
    (hforced : lu.state = .closed ∨ (lu.state = .locked ∧ ¬(lu.role = .freeExit ∧ e = .OUT)) ∨
      (lu.state = .armed ∧ lu.hold = some e.opposite)) (hreaches : lu.reaches e = true) :
    lu.step e now = (lu.move e).forcedPassage := by
  obtain h | ⟨h, hbarred⟩ | ⟨h, hhold⟩ := hforced
  · simp only [LaneUnit.step, h, if_pos hreaches]
  · simp only [LaneUnit.step, h, if_pos hreaches, if_neg hbarred]
  · rw [LaneUnit.step_of_armed h hhold, LaneUnit.stepArmed, if_neg e.opposite_ne, if_pos hreaches]

/-- The commit (R119, R120, R122). -/
theorem LaneUnit.step_of_commit (hlive : lu.live.Ok) (hstate : lu.state = .turning ∨ lu.state = .armed)
    (hhold : lu.hold = some e) (hreaches : lu.reaches e = true) :
    lu.step e now = (lu.move e).commitPassage e now := by
  have hthreshold := hlive.threshold_pos
  have hstarted : Config.startThreshold ≤ e.sign * (lu.move e).accumulator := by
    rw [LaneUnit.reaches_accumulator hlive hreaches, Config.startThreshold]
    omega
  obtain h | h := hstate
  · rw [LaneUnit.step_of_turning h hhold, LaneUnit.stepTurning, if_pos ⟨rfl, hreaches⟩]
  · rw [LaneUnit.step_of_armed h hhold, LaneUnit.stepArmed, if_pos rfl, if_pos hstarted, if_pos hreaches]

theorem LaneUnit.raise_of_none (hcompletion : lu.completion = none) (c : Completion) :
    lu.raise c = { lu with completion := some c } := by
  rw [LaneUnit.raise, hcompletion, Option.none_or]

/-- A commit relocks the lane with its completion, capture and tally (R122). -/
theorem LaneUnit.commitPassage_eq (hcompletion : lu.completion = none) (d : Side) (now : VenueTime) :
    lu.commitPassage d now =
      { lu with
        armTimer := none, overdue := false, counted := true, completion := some (.commit now)
        tallies :=
          match d with
          | .IN => { lu.tallies with admits := lu.tallies.admits + 1 }
          | .OUT => { lu.tallies with exits := lu.tallies.exits + 1 } }.inState .locked := by
  refine (LaneUnit.goTo_eq_inState _ _).trans
    (congrArg (fun lu' : LaneUnit => lu'.inState .locked) ((LaneUnit.raise_of_none ?_ (.commit now)).trans ?_))
  · exact hcompletion
  · cases d <;> rfl

/-- In TURNING a step that leaves d·A positive, and is no commit, moves the rotor alone (R120). -/
theorem LaneUnit.stepTurning_of_positive (hcount : 1 ≤ d.sign * (lu.move e).accumulator)
    (hnot : ¬(e = d ∧ lu.reaches e = true)) : lu.stepTurning d e now = lu.move e := by
  rw [LaneUnit.stepTurning, if_neg hnot, if_neg (by omega)]

/-- In TURNING the rest ends the turn: back to ARMED, or relocked with an expiry when overdue (R120, R125). -/
theorem LaneUnit.stepTurning_of_rest (hrest : accumulate lu.accumulator e = 0)
    (hnot : ¬(e = d ∧ lu.reaches e = true)) :
    lu.stepTurning d e now =
      if lu.overdue then
        { lu with
          accumulator := 0, counted := false, armTimer := none
          completion := lu.completion.or (some .expiry) }.inState .locked
      else { lu with accumulator := 0, counted := false }.inState .armed := by
  have hzero : d.sign * (0 : Int) ≤ 0 := by omega
  rw [LaneUnit.stepTurning, if_neg hnot, LaneUnit.move_of_rest hrest, if_pos hzero, LaneUnit.goTo_eq_inState,
    LaneUnit.relock_eq_inState]
  rfl

/-- The two ways back to the rest in TURNING, neither of them a commit (R115, R120). -/
theorem LaneUnit.rest_of_backOut (hlive : lu.live.Ok)
    (hback : e ≠ d ∧ lu.accumulator = d.sign ∨ e = d ∧ lu.accumulator = 95 * d.sign) :
    accumulate lu.accumulator e = 0 ∧ ¬(e = d ∧ lu.reaches e = true) := by
  obtain ⟨hne, haccumulator⟩ | ⟨rfl, haccumulator⟩ := hback
  · refine ⟨?_, fun h => hne h.1⟩
    rw [haccumulator, Side.eq_opposite_of_ne hne]
    cases d <;> rfl
  · refine ⟨by rw [haccumulator]; cases e <;> rfl, fun ⟨_, hreaches⟩ => ?_⟩
    obtain ⟨hlow, hhigh, -⟩ := LaneUnit.reaches_inside hlive hreaches
    rw [haccumulator] at hlow hhigh
    cases e <;> dsimp only [Side.sign] at hlow hhigh <;> omega

/-- A count between 1 and 95 in a direction lies inside the arm and off the rest. -/
theorem Side.inside_of_sign_mul {a : Int} (hlow : 1 ≤ d.sign * a) (hhigh : d.sign * a ≤ 95) :
    -95 ≤ a ∧ a ≤ 95 ∧ a ≠ 0 := by
  cases d <;> dsimp only [Side.sign] at hlow hhigh <;> omega

theorem LaneUnit.move_of_sign_mul (hlow : 1 ≤ d.sign * (lu.accumulator + e.sign))
    (hhigh : d.sign * (lu.accumulator + e.sign) ≤ 95) :
    lu.move e = { lu with accumulator := lu.accumulator + e.sign } := by
  obtain ⟨hleast, hgreatest, hzero⟩ := Side.inside_of_sign_mul hlow hhigh
  exact LaneUnit.move_of_inside hleast hgreatest hzero

end

end Sys2Proof.Machine

open Sys2Proof Sys2Proof.Machine

/-- Settles O21: the table entry by entry, and a pair that is no step at the lane unit. -/
theorem encoderPairsDecode : Obligations.EncoderPairsDecode := by
  refine ⟨by decide, fun n s => if_pos (.inr rfl), fun lu pair => ?_, ?_⟩
  · cases h : lu.live.reversed <;> cases hstep : decodeStep lu.reference pair <;>
      simp [LaneUnit.direction?, LaneUnit.applyReversed, h, hstep]
  · rintro n pair s _ hrst rfl ha hb
    rw [exec_encoderEvent_of_ne hrst fun h => ha (by rw [h]),
      LaneUnit.takePair_of_phaseError (decodeStep_of_both ha hb)]

/-- Settles O22: every step has the frame, and the quiet ones are the rotor's move alone. -/
theorem stepMovesTheRotor : Obligations.StepMovesTheRotor := by
  intro n pair s lu e hrst hlu hlive hdirection
  rw [← hlu] at hdirection
  have hsteps := lu.step_stepsTo e s.clock.time
  obtain ⟨haccumulator, hrole, hhold, hlive', hpreload⟩ := hsteps.frame
  refine ⟨_, exec_encoderEvent_of_direction hrst hdirection, ?_⟩
  rw [hlu, LaneUnit.settlePreload_eq]
  refine ⟨haccumulator, hsteps.counted_of_rest hlive, rfl, hrole, hhold, hpreload, ?_, fun hquiet => ?_⟩
  · simp only [hhold, hpreload, hlive', Option.isSome_eq_false_iff, Option.isNone_iff_eq_none]
    exact if_congr (by tauto) rfl rfl
  · have hmoves : lu.step e s.clock.time = lu.move e := by
      obtain ⟨hstate, hnot⟩ | ⟨harmed, hforward, hshort⟩ | ⟨harmed, hback, hnot⟩ := hquiet
      · exact LaneUnit.step_of_resting hstate (mt LaneUnit.reaches_iff.mp hnot)
      · have hmoved : e.sign * (lu.step e s.clock.time).accumulator < 8 := hshort
        rw [haccumulator] at hmoved
        rw [LaneUnit.step_of_armed harmed hforward, LaneUnit.stepArmed_of_short hmoved]
      · rw [LaneUnit.step_of_armed harmed hback]
        exact LaneUnit.stepArmed_of_back e.opposite_ne (mt LaneUnit.reaches_iff.mp hnot)
    rw [hmoves, ← LaneUnit.move_counted_eq]
    rfl

/-- Settles O23: the passage is read off the step, and no other step changes FREE. -/
theorem freePassageCountsAlone : Obligations.FreePassageCountsAlone := by
  refine ⟨?_, fun n pair s t hexec hchanged => ?_⟩
  · rintro n pair s _ e hrst rfl hlive hdirection hfree hcounted hcount
    have hreaches := LaneUnit.reaches_iff.mpr ⟨hcounted, hcount⟩
    have hstep := LaneUnit.step_of_freePassage (now := s.clock.time) hfree hreaches
    rw [LaneUnit.move_of_reaches hlive hreaches] at hstep
    exact exec_encoderEvent_of_waiting hrst hdirection hstep (.inl (LaneUnit.reaches_ne_rest hlive hreaches))
  · by_cases hidle : s.rstAsserted = true ∨ pair = (s.lanes.get n).reference
    · have hstays : exec (.encoderEvent n pair) s = .next s := if_pos hidle
      rw [next_inj (hstays.symm.trans hexec)] at hchanged
      exact absurd rfl hchanged
    · have hrst : s.rstAsserted = false := Bool.eq_false_iff.mpr fun h => hidle (.inl h)
      have htaken := exec_encoderEvent_of_ne hrst fun h => hidle (.inr h)
      obtain rfl := next_inj (htaken.symm.trans hexec)
      rw [State.setLane_lanes, get_set, if_pos rfl] at hchanged ⊢
      cases hdirection : (s.lanes.get n).direction? pair with
      | none =>
        rw [LaneUnit.takePair_of_phaseError (Option.map_eq_none_iff.mp hdirection)] at hchanged
        exact absurd rfl hchanged
      | some e =>
        rw [LaneUnit.takePair_of_direction hdirection, LaneUnit.settlePreload_eq] at hchanged ⊢
        obtain ⟨hreaches, hfree, hraised⟩ := ((s.lanes.get n).step_stepsTo e s.clock.time).free_of_ne hchanged
        obtain ⟨hcounted, hcount⟩ := LaneUnit.reaches_iff.mp hreaches
        exact ⟨_, e, rfl, hrst, hdirection, hcounted, hcount, hfree, hraised⟩

/-- Settles O24: the three states of a forced passage have the same step. -/
theorem forcedPassageRaisesAReport : Obligations.ForcedPassageRaisesAReport := by
  rintro n pair s _ e hrst rfl hlive hdirection hforced hcounted hcount
  have hreaches := LaneUnit.reaches_iff.mpr ⟨hcounted, hcount⟩
  have hstep := LaneUnit.step_of_forcedPassage (now := s.clock.time) hforced hreaches
  rw [LaneUnit.move_of_reaches hlive hreaches] at hstep
  exact exec_encoderEvent_of_waiting hrst hdirection hstep (.inl (LaneUnit.reaches_ne_rest hlive hreaches))

/-- Settles O25: ARMED and TURNING have the same commit. -/
theorem commitAtTheThreshold : Obligations.CommitAtTheThreshold := by
  rintro n pair s _ d hrst rfl hlive hdirection hstate hhold hcompletion hcounted hcount
  have hreaches := LaneUnit.reaches_iff.mpr ⟨hcounted, hcount⟩
  have hstep := LaneUnit.step_of_commit (now := s.clock.time) hlive hstate hhold hreaches
  have hmoved : ((s.lanes.get n).move d).completion = none := hcompletion
  rw [LaneUnit.commitPassage_eq hmoved, LaneUnit.move_of_reaches hlive hreaches] at hstep
  exact exec_encoderEvent_of_waiting hrst hdirection hstep (.inl (LaneUnit.reaches_ne_rest hlive hreaches))

/-- Settles O26: each clause's count decides the branch of the step, and under the hold the preload waits. -/
theorem turnStartsAndBacksOut : Obligations.TurnStartsAndBacksOut := by
  rintro n pair s _ d e hrst rfl hlive hdirection hhold
  have answered {lu : LaneUnit} (hstep : (s.lanes.get n).step e s.clock.time = lu)
      (hkept : lu.hold = (s.lanes.get n).hold) :
      exec (.encoderEvent n pair) s = .next (s.setLane n { lu with reference := pair }) :=
    exec_encoderEvent_of_waiting hrst hdirection hstep (.inr (by rw [hkept, hhold]; exact Option.some_ne_none d))
  refine ⟨?_, ?_, fun hturning hback => ?_, fun hturning hlow hhigh hnot => ?_⟩
  · rintro harmed rfl hlow hhigh hnot
    have hmove := LaneUnit.move_of_sign_mul (by omega) hhigh
    have hstep := (LaneUnit.step_of_armed (now := s.clock.time) harmed hhold).trans
      (LaneUnit.stepArmed_of_start (by rw [hmove]; exact hlow) (mt LaneUnit.reaches_iff.mp hnot))
    rw [LaneUnit.goTo_eq_inState, hmove] at hstep
    exact answered hstep rfl
  · rintro harmed rfl hlow hhigh
    have hmove := LaneUnit.move_of_sign_mul hlow (by omega)
    have hstep := (LaneUnit.step_of_armed (now := s.clock.time) harmed hhold).trans
      (LaneUnit.stepArmed_of_short (by rw [hmove]; dsimp only; omega))
    rw [hmove] at hstep
    exact answered hstep rfl
  · obtain ⟨hrest, hnot⟩ := LaneUnit.rest_of_backOut hlive hback
    have hstep := (LaneUnit.step_of_turning (now := s.clock.time) hturning hhold).trans
      (LaneUnit.stepTurning_of_rest hrest hnot)
    cases hoverdue : (s.lanes.get n).overdue
    all_goals
      rw [hoverdue] at hstep
      exact answered hstep rfl
  · have hmove := LaneUnit.move_of_sign_mul hlow hhigh
    have hcommit : ¬(e = d ∧ (s.lanes.get n).reaches e = true) := by
      rintro ⟨rfl, hreaches⟩
      exact hnot ⟨rfl, LaneUnit.reaches_iff.mp hreaches⟩
    have hstep := (LaneUnit.step_of_turning (now := s.clock.time) hturning hhold).trans
      (LaneUnit.stepTurning_of_positive (by rw [hmove]; exact hlow) hcommit)
    rw [hmove] at hstep
    exact answered hstep rfl
end

section
/-! What has run out: the arm timers and the link monitor (R125, R178). -/

namespace Sys2Proof.Machine

section
variable {s : State} {lu : LaneUnit} {n : Lane}

theorem exec_armTimerExpiry_of_running (hrst : s.rstAsserted = false) (n : Lane) :
    exec (.armTimerExpiry n) s = .next (s.settleExpiry n) := by
  simp only [exec, execArmTimerExpiry, hrst, Bool.false_eq_true, if_false]

theorem State.settleExpiry_of_due (h : (s.lanes.get n).armTimer = some 0) :
    s.settleExpiry n = s.setLane n (s.lanes.get n).takeExpiry := by
  rw [State.settleExpiry, if_pos]
  rw [LaneUnit.expiryDue, h]
  rfl

theorem State.settleExpiry_of_not_due (h : (s.lanes.get n).armTimer ≠ some 0) : s.settleExpiry n = s := by
  rw [State.settleExpiry, if_neg]
  simpa [LaneUnit.expiryDue] using h

/-- An ARMED lane whose window has run out relocks and raises an expiry (R125). -/
theorem LaneUnit.takeExpiry_of_armed (hstate : lu.state = .armed) (hcompletion : lu.completion = none) :
    lu.takeExpiry = { lu with armTimer := none, completion := some .expiry }.inState .locked := by
  simp only [LaneUnit.takeExpiry, hstate, LaneUnit.relock_eq_inState, LaneUnit.raise, LaneUnit.inState,
    hcompletion, Option.none_or]

/-- A TURNING lane whose window has run out becomes overdue (R125). -/
theorem LaneUnit.takeExpiry_of_turning (hstate : lu.state = .turning) :
    lu.takeExpiry = { lu with armTimer := none, overdue := true } := by
  simp only [LaneUnit.takeExpiry, hstate]

theorem exec_linkMonitorTimeout_of_due (hrst : s.rstAsserted = false) (hdue : s.gc.timeoutDue = true) :
    exec .linkMonitorTimeout s = .next { s with gc := s.gc.loseLink } := by
  simp only [exec, execLinkMonitorTimeout, hrst, Bool.false_eq_true, if_false, State.settleTimeout, hdue, if_true]

end

end Sys2Proof.Machine

open Sys2Proof Sys2Proof.Machine

/-- Settles O27: what is due is taken by its own command, by the lane state. -/
theorem timersRunOut : Obligations.TimersRunOut := by
  refine ⟨fun s hrst hdue => exec_linkMonitorTimeout_of_due hrst hdue, ?_⟩
  rintro n s _ hrst rfl
  rw [exec_armTimerExpiry_of_running hrst]
  refine ⟨fun hnot => ?_, fun hdue harmed hcompletion => ?_, fun hdue hturning => ?_⟩
  · rw [State.settleExpiry_of_not_due hnot]
  · rw [State.settleExpiry_of_due hdue, LaneUnit.takeExpiry_of_armed harmed hcompletion]
  · rw [State.settleExpiry_of_due hdue, LaneUnit.takeExpiry_of_turning hturning]
end

section
/-! SET_LANE (R130 to R132), and READ_TALLIES, STATUS, RESTART and the requests that are none (R134, R200, R204,
R205). -/

namespace Sys2Proof.Machine

section
variable {s : State} {lu : LaneUnit} {n : Lane} {p : List Byte}

/-! ### Faulty and sound bytes -/

theorem laneOf?_eq_none {b : Byte} (h : 5 < b.toNat) : laneOf? b = none := dif_neg (by omega)

theorem flagOf?_eq_none {b : Byte} (h : 1 < b.toNat) : flagOf? b = none := by
  have hzero : b ≠ 0x00 := by rintro rfl; exact absurd h (by decide)
  have hone : b ≠ 0x01 := by rintro rfl; exact absurd h (by decide)
  rw [flagOf?, if_neg hzero, if_neg hone]

theorem flagOf?_eq_some {b : Byte} (h : b.toNat ≤ 1) : flagOf? b = some (decide (b = 0x01)) := by
  have hb : b = 0x00 ∨ b = 0x01 := by
    rw [← BitVec.toNat_inj, ← BitVec.toNat_inj]
    simp only [BitVec.ofNat_eq_ofNat, BitVec.toNat_ofNat]
    omega
  obtain rfl | rfl := hb <;> decide

theorem roleOf?_eq_none {b : Byte} (h : 4 < b.toNat) : roleOf? b = none := by
  unfold roleOf?
  split
  case h_6 => rfl
  all_goals omega

theorem roleOf?_code (r : Role) : roleOf? r.code = some r := by cases r <;> rfl

/-! ### SET_LANE (R131, R132) -/

theorem laneChangeOf?_eq_none
    (h : 5 < (byteAt p 0).toNat ∨ (bitAt (byteAt p 1) 0 = true ∧ 4 < (byteAt p 2).toNat) ∨
      (bitAt (byteAt p 1) 3 = true ∧ 1 < (byteAt p 5).toNat)) : laneChangeOf? p = none := by
  unfold laneChangeOf?
  dsimp only
  split
  case h_1 hlane hrole hreversed =>
    obtain h | ⟨hbit, h⟩ | ⟨hbit, h⟩ := h
    · rw [laneOf?_eq_none h] at hlane
      cases hlane
    · rw [optionalField, if_pos hbit, roleOf?_eq_none h] at hrole
      cases hrole
    · rw [optionalField, if_pos hbit, flagOf?_eq_none h] at hreversed
      cases hreversed
  case h_2 => rfl

/-- The settings that a SET_LANE payload leaves in the preload: each field carried, clamped, and the others as they
are (R131). -/
def carriedSettings (p : List Byte) (old : Settings) : Settings :=
  { window := if bitAt (byteAt p 1) 1 then max 1 (min 60 (byteAt p 3).toNat) else old.window
    threshold := if bitAt (byteAt p 1) 2 then max 48 (min 90 (byteAt p 4).toNat) else old.threshold
    reversed := if bitAt (byteAt p 1) 3 then decide (byteAt p 5 = 0x01) else old.reversed }

/-- The change that a sound SET_LANE payload carries (R131). -/
def carriedChange (p : List Byte) (n : Lane) (role : Role) : LaneChange :=
  { lane := n
    role := if bitAt (byteAt p 1) 0 then some role else none
    window :=
      if bitAt (byteAt p 1) 1 then some (clamp Config.minWindow Config.maxWindow (byteAt p 3).toNat) else none
    threshold :=
      if bitAt (byteAt p 1) 2 then some (clamp Config.minThreshold Config.maxThreshold (byteAt p 4).toNat)
      else none
    reversed := if bitAt (byteAt p 1) 3 then some (decide (byteAt p 5 = 0x01)) else none }

theorem laneChangeOf?_eq_some {role : Role} (hlane : (byteAt p 0).toNat = n.val)
    (hrole : bitAt (byteAt p 1) 0 = true → role.code = byteAt p 2)
    (hreversed : bitAt (byteAt p 1) 3 = true → (byteAt p 5).toNat ≤ 1) :
    laneChangeOf? p = some (carriedChange p n role) := by
  have hcarriedRole : optionalField (bitAt (byteAt p 1) 0) (roleOf? (byteAt p 2))
      = some (if bitAt (byteAt p 1) 0 then some role else none) := by
    cases hbit : bitAt (byteAt p 1) 0 with
    | false => rfl
    | true =>
      rw [← hrole hbit, roleOf?_code]
      rfl
  have hcarriedReversed : optionalField (bitAt (byteAt p 1) 3) (flagOf? (byteAt p 5))
      = some (if bitAt (byteAt p 1) 3 then some (decide (byteAt p 5 = 0x01)) else none) := by
    cases hbit : bitAt (byteAt p 1) 3 with
    | false => rfl
    | true =>
      rw [flagOf?_eq_some (hreversed hbit)]
      rfl
  simp only [laneChangeOf?, laneOf?_eq_some.mpr hlane, hcarriedRole, hcarriedReversed, carriedChange]

/-- The role after the change: the one carried, else the live one (R131). -/
theorem carriedChange_role {role : Role} (hrole : bitAt (byteAt p 1) 0 = false → role = lu.role) :
    (carriedChange p n role).role.getD lu.role = role := by
  unfold carriedChange
  cases hbit : bitAt (byteAt p 1) 0 with
  | false => exact (hrole hbit).symm
  | true => rfl

theorem LaneUnit.writePreload_carriedChange (lu : LaneUnit) (role : Role) :
    lu.writePreload (carriedChange p n role) = { lu with preload := carriedSettings p lu.preload } := by
  unfold LaneUnit.writePreload carriedSettings carriedChange
  cases bitAt (byteAt p 1) 1 <;> cases bitAt (byteAt p 1) 2 <;> cases bitAt (byteAt p 1) 3 <;> rfl

/-- The role takes effect at once: a CLOSED or LOCKED lane takes the resting state of a new role, with its locks
(R132). -/
theorem LaneUnit.changeRole_eq {change : Option Role} {role : Role} (h : change.getD lu.role = role) :
    lu.changeRole change =
      if role ≠ lu.role ∧ (lu.state = .closed ∨ lu.state = .locked) then
        { lu with role := role }.inState (if role = Role.off then .closed else .locked)
      else { lu with role := role } := by
  subst h
  cases change with
  | none => rw [if_neg fun h => h.1 rfl]; rfl
  | some r =>
    by_cases hsame : r = lu.role
    · subst hsame
      rw [if_neg fun h => h.1 rfl, LaneUnit.changeRole, if_pos rfl]
      rfl
    · rw [LaneUnit.changeRole, if_neg hsame, Option.getD_some]
      cases hstate : lu.state <;>
        simp [LaneUnit.takeRole, hstate, hsame, LaneUnit.goTo_eq_inState, Role.restingState_eq]

/-- A lane unit with a role and a preload written, the preload live where R130 allows it. -/
def LaneUnit.written (lu : LaneUnit) (role : Role) (preload : Settings) (named : Bool) : LaneUnit :=
  { lu with
    role := role, preload := preload
    live := if named = false ∧ lu.hold = none ∧ lu.accumulator = 0 then preload else lu.live }

/-- The lane unit that SET_LANE leaves (R130 to R132). -/
theorem LaneUnit.setLane_eq {role : Role} (hrole : (carriedChange p n role).role.getD lu.role = role)
    (named : Bool) :
    ((lu.changeRole (carriedChange p n role).role).writePreload (carriedChange p n role)).settlePreload named =
      if role ≠ lu.role ∧ (lu.state = .closed ∨ lu.state = .locked) then
        (lu.written role (carriedSettings p lu.preload) named).inState
          (if role = Role.off then .closed else .locked)
      else lu.written role (carriedSettings p lu.preload) named := by
  rw [LaneUnit.writePreload_carriedChange, LaneUnit.changeRole_eq hrole, LaneUnit.settlePreload_eq,
    LaneUnit.written]
  split <;> rfl

/-- A sound SET_LANE is refused for a new role under a hold, and else written (R131). -/
theorem setLaneService_of_change {c : LaneChange} (hchange : laneChangeOf? p = some c) :
    setLaneService s p =
      if (s.contexts.get c.lane).holdRef.isSome = true ∧
          c.role.getD (s.lanes.get c.lane).role ≠ (s.lanes.get c.lane).role then (s, .refuse .holdActive)
      else
        (s.setLane c.lane ((((s.lanes.get c.lane).changeRole c.role).writePreload c).settlePreload
            (s.contexts.get c.lane).holdRef.isSome),
          .ok (lanePayload c.lane ((((s.lanes.get c.lane).changeRole c.role).writePreload c).settlePreload
            (s.contexts.get c.lane).holdRef.isSome))) := by
  rw [setLaneService, hchange]

theorem badPresence_setLane (h : (byteAt p 1).toNat < 16) : badPresence .setLane p = false :=
  decide_eq_false (Nat.not_le.mpr h)

/-! ### Requests that are none (R200) -/

/-- A frame with an unknown type, a wrong length or a bad presence byte is no request of the catalogue. -/
theorem UplinkRequest.kind_eq_unknown {type : Byte}
    (h : catalogue type = none ∨ (∃ k length, catalogue type = some (k, length) ∧ p.length ≠ length) ∨
      (type = 0x21 ∧ 4 ≤ (byteAt p 1).toNat) ∨ (type = 0x60 ∧ 16 ≤ (byteAt p 1).toNat) ∨
      (type = 0x10 ∧ 16 ≤ (byteAt p 11).toNat)) : UplinkRequest.kind ⟨type, p⟩ = .unknown := by
  have presence {k : UplinkKind} {length : Nat} (htype : catalogue type = some (k, length))
      (hbad : badPresence k p = true) : UplinkRequest.kind ⟨type, p⟩ = .unknown := by
    simp [UplinkRequest.kind, htype, hbad]
  obtain h | ⟨k, length, htype, hlength⟩ | ⟨rfl, h⟩ | ⟨rfl, h⟩ | ⟨rfl, h⟩ := h
  · simp only [UplinkRequest.kind, h]
  · simp [UplinkRequest.kind, htype, hlength]
  · exact presence rfl (decide_eq_true h)
  · exact presence rfl (decide_eq_true h)
  · exact presence rfl (decide_eq_true h)

/-- A request outside the catalogue is served by no request's service (R200). -/
theorem State.serveUplink_of_unknown {type : Byte} (htakes : s.TakesUplink type p)
    (hunknown : UplinkRequest.kind ⟨type, p⟩ = .unknown) {k : UplinkKind} (hk : k ≠ .unknown)
    (serve : State → List Byte → State × Answer) : s.serveUplink k serve = s := by
  obtain ⟨-, hslot⟩ := htakes
  refine State.serveUplink_of_other s k serve fun r _ hr => ?_
  obtain rfl := UplinkSlot.inService.inj (hslot.symm.trans hr)
  rw [hunknown]
  exact hk.symm

theorem State.mayChoose_of_takes {item : Service} (h : s.Takes item) : s.mayChoose = false := by
  obtain ⟨-, -, hchosen⟩ := h
  simp [State.mayChoose, hchosen]

end

end Sys2Proof.Machine

open Sys2Proof Sys2Proof.Machine

/-- Settles O59: the payload is read field by field, and the lane unit written as it says. -/
theorem setLaneWritesRoleAndPreload : Obligations.SetLaneWritesRoleAndPreload := by
  intro s p htakes hlen hpresence
  have hkind : UplinkRequest.kind ⟨0x60, p⟩ = .setLane :=
    UplinkRequest.kind_of_catalogue rfl hlen (badPresence_setLane hpresence)
  have answered {u : State} {a : Answer} (hserve : setLaneService s p = (u, a)) :
      exec .setLane s = .next (u.replied 0x60 p a.status a.payload) :=
    congrArg _ (State.serveUplink_of_takes htakes hkind hserve)
  refine ⟨fun hfaulty => answered (a := .refuse .badArg) ?_, ?_⟩
  · rw [setLaneService, laneChangeOf?_eq_none hfaulty]
  rintro n _ role hlane rfl hrole hreversed
  have hcarried (hbit : bitAt (byteAt p 1) 0 = true) : role.code = byteAt p 2 := by rwa [if_pos hbit] at hrole
  have hkept (hbit : bitAt (byteAt p 1) 0 = false) : role = (s.lanes.get n).role := by
    rwa [if_neg (by simp [hbit])] at hrole
  have hservice := setLaneService_of_change (s := s) (laneChangeOf?_eq_some hlane hcarried hreversed)
  have hnewRole := carriedChange_role (n := n) hkept
  have hlaneOf : (carriedChange p n role).lane = n := rfl
  rw [hlaneOf, hnewRole, LaneUnit.setLane_eq hnewRole] at hservice
  refine ⟨fun hnew hheld => ?_, fun hallowed => ⟨_, _, rfl, rfl, ?_⟩⟩
  · rw [if_pos ⟨Option.isSome_iff_ne_none.mpr hheld, hnew⟩] at hservice
    exact answered hservice
  · have hnot : ¬((s.contexts.get n).holdRef.isSome = true ∧ role ≠ (s.lanes.get n).role) := by
      rintro ⟨hheld, hnew⟩
      exact hallowed.elim hnew (Option.isSome_iff_ne_none.mp hheld)
    rw [if_neg hnot, LaneUnit.written] at hservice
    simp only [Option.isSome_eq_false_iff, Option.isNone_iff_eq_none] at hservice
    exact answered hservice

/-- Settles O60: each service answers from the state as it stands, and a request that is none has the kind of no other
service. -/
theorem reportsRestartAndUnknown : Obligations.ReportsRestartAndUnknown := by
  refine ⟨fun s b htakes => ?_, fun s htakes => ?_, fun s htakes => ?_, fun s type p htakes hnone => ?_⟩
  · have hkind : UplinkRequest.kind ⟨0x61, [b]⟩ = .readTallies := UplinkRequest.kind_of_catalogue rfl rfl rfl
    have answered {u : State} {a : Answer} (hserve : readTalliesService s [b] = (u, a)) :
        exec .readTallies s = .next (u.replied 0x61 [b] a.status a.payload) :=
      congrArg _ (State.serveUplink_of_takes htakes hkind hserve)
    refine ⟨fun hfaulty => answered (a := .refuse .badArg) ?_, ?_⟩
    · have hflag : flagOf? (byteAt [b] 0) = none := flagOf?_eq_none hfaulty
      rw [readTalliesService, hflag]
    · rintro _ rfl
      refine ⟨?_, ?_⟩
      · rintro rfl
        exact answered (a := .ok (talliesPayload s.lanes)) rfl
      · rintro rfl
        exact answered (a := .ok (talliesPayload s.lanes)) rfl
  · have hserved : s.serveUplink .status (fun s _ => (s, .ok (statusPayload s)))
        = s.replied 0x70 [] .ok (statusPayload s) :=
      State.serveUplink_of_takes (a := .ok (statusPayload s)) htakes (UplinkRequest.kind_of_catalogue rfl rfl rfl) rfl
    exact congrArg _ hserved
  · have hserved : s.serveUplink .restart (fun s _ => ({ s with restarting := true }, .ok []))
        = { s with restarting := true }.replied 0x71 [] .ok [] :=
      State.serveUplink_of_takes (a := .ok []) htakes (UplinkRequest.kind_of_catalogue rfl rfl rfl) rfl
    exact congrArg _ hserved
  · have hunknown := UplinkRequest.kind_eq_unknown hnone
    refine ⟨congrArg _ (State.serveUplink_of_refused htakes hunknown rfl), fun c hc hknown => ?_⟩
    have hitem : s.Takes .uplinkRequest := htakes.1
    exact exec_service_stays (State.mayChoose_of_takes hitem) (.inr ((State.serving_eq_some s _).mpr hitem))
      (fun k serve hk => State.serveUplink_of_unknown htakes hunknown hk serve) hc hknown
end

section
/-! NOTE_ADMIT, NOTE_EXIT and REVOKE: the tests common to the notices, and what each does by the record's state
(R137 to R149). -/

namespace Sys2Proof.Machine

/-! ### Reading a notice (R137) -/

section
variable {t : Ticket} {g : GateId} {time : VenueTime} {p : List Byte}

theorem length_of_notice (hp : p = ticketBytes t ++ [byteOf g.val] ++ bytes32 time.seconds ++ [time.fraction]) :
    p.length = 14 := by
  simp [hp]

theorem noticeOf?_eq_some (hp : p = ticketBytes t ++ [byteOf g.val] ++ bytes32 time.seconds ++ [time.fraction])
    (hg : g ≠ 0) : noticeOf? p = some ⟨t, g, time⟩ := by
  have hlayout : p.drop 0 = ticketBytes t ++ ([byteOf g.val] ++ timeBytes time) := by simp [hp, timeBytes]
  have hrest : p.drop 8 = [byteOf g.val] ++ timeBytes time := drop_of_drop hlayout (ticketBytes_length t)
  have htime : p.drop 9 = timeBytes time ++ [] := (drop_of_drop hrest rfl).trans (List.append_nil _).symm
  have hticket : bytesAt p 0 8 = ticketBytes t := ticketBytes_length t ▸ bytesAt_of_drop hlayout
  rw [noticeOf?, hticket, ticketOfBytes?_ticketBytes, byteAt_of_drop hrest, gateIdOf?_byteOf hg, timeAt_of_drop htime]

/-- The tests common to the notices, in their order: the echo, the lookup, then the notice's own effect on the record
found and its answer (R137 to R139). -/
theorem exec_notice_of_takes {s : State} {c : Instr} {type : Byte} {k : UplinkKind}
    {found : State → Nat → Record → Notice → State × Answer}
    (hexec : exec c s = .next (s.serveUplink k (noticeService found)))
    (hp : p = ticketBytes t ++ [byteOf g.val] ++ bytes32 time.seconds ++ [time.fraction]) (hg : g ≠ 0)
    (htakes : s.TakesUplink type p) (htype : catalogue type = some (k, 14)) (hpresence : badPresence k p = false) :
    (g = s.gc.gateId → exec c s = .next (s.replied type p .echo [])) ∧
    (g ≠ s.gc.gateId → s.table.lookup t = none → exec c s = .next (s.replied type p .notFound [])) ∧
    ∀ {slot r}, g ≠ s.gc.gateId → s.table.lookup t = some (slot, r) →
      ∀ {u : State} {st : Status} {q : Record} {sent : Bool} {l : List Byte},
        found s slot r ⟨t, g, time⟩ = (u, noticeAnswer st slot q sent) → noticePayload slot q sent = l →
        exec c s = .next (u.replied type p st l) := by
  have hnotice := noticeOf?_eq_some hp hg
  have hkind : UplinkRequest.kind ⟨type, p⟩ = k := UplinkRequest.kind_of_catalogue htype (length_of_notice hp) hpresence
  rw [hexec]
  refine ⟨fun hecho => congrArg _ (State.serveUplink_of_refused htakes hkind ?_),
    fun hforeign hlookup => congrArg _ (State.serveUplink_of_refused htakes hkind ?_), ?_⟩
  · simp only [noticeService, hnotice, hecho, if_true]
  · simp only [noticeService, hnotice, hforeign, if_false, hlookup]
  · rintro slot r hforeign hlookup u st q sent _ hfound rfl
    refine congrArg _ (State.serveUplink_of_takes (a := noticeAnswer st slot q sent) htakes hkind ?_)
    simp only [noticeService, hnotice, hforeign, if_false, hlookup, hfound]

end

/-! ### What a notice does to a record found (R140 to R149) -/

section
variable {s : State} {slot : Nat} {r : Record} {h : Hold} {x : Notice}

/-- A record of no hold is answered with no lane, no direction and no withdraw (R139). -/
theorem noticePayload_of_unheld {withdrawSent : Bool} (hhold : r.hold? = none) :
    noticePayload slot r withdrawSent
      = bytes16 slot ++ [r.state.name.code, byteOf r.entries.val, 0x00, 0x00, 0x00] := by
  rw [noticePayload, hhold]
  rfl

theorem noticePayload_of_held {withdrawSent : Bool} (hstate : r.state = .held h) :
    noticePayload slot r withdrawSent
      = bytes16 slot ++
        [0x02, byteOf r.entries.val, byteOf h.lane.val, h.direction.code, byteOfBool withdrawSent] := by
  rw [noticePayload, (r.hold?_eq_some h).mpr hstate, hstate]
  rfl

theorem noteAdmitFound_of_admissible (hstate : r.state = .valid ∨ r.state = .outside) :
    noteAdmitFound s slot r x =
      ((s.setRecord slot (r.admittedElsewhere x)).modifyZone (s.zoneOf r) ZoneRecord.countIn,
        noticeAnswer .ok slot (r.admittedElsewhere x) false) := by
  obtain hstate | hstate := hstate <;> rw [noteAdmitFound, hstate]

theorem noteAdmitFound_of_inadmissible (hstate : r.state = .inside ∨ r.state = .spent ∨ r.state = .revoked) :
    noteAdmitFound s slot r x = (s.reportDouble slot r x, noticeAnswer .ok slot r false) := by
  obtain hstate | hstate | hstate := hstate <;> rw [noteAdmitFound, hstate]

theorem noteAdmitFound_of_exitHold (hstate : r.state = .held h) (hdirection : h.direction = .OUT) :
    noteAdmitFound s slot r x = (s, noticeAnswer .held slot r false) := by
  rw [noteAdmitFound, hstate]
  simp only [noteAdmitHeld, hdirection]

/-- A record whose hold carries a notice as its remote mark (R142). -/
def Record.markedBy (r : Record) (h : Hold) (x : Notice) : Record :=
  { r with state := .held { h with remoteMark := some ⟨x.gate, x.time⟩ } }

theorem noteAdmitFound_of_entryHold (hstate : r.state = .held h) (hdirection : h.direction = .IN)
    (hmark : h.remoteMark = none) :
    noteAdmitFound s slot r x =
      (((s.setRecord slot (r.markedBy h x)).modifyZone (s.zoneOf r) ZoneRecord.countIn).sendWithdraw h.lane,
        noticeAnswer .ok slot (r.markedBy h x) true) := by
  rw [noteAdmitFound, hstate]
  simp only [noteAdmitHeld, hdirection, hmark, Record.markedBy]

theorem noteAdmitFound_of_markedHold {m : RemoteMark} (hstate : r.state = .held h) (hdirection : h.direction = .IN)
    (hmark : h.remoteMark = some m) :
    noteAdmitFound s slot r x =
      (((s.modifyZone (s.zoneOf r) ZoneRecord.countIn).reportDouble slot r x).sendWithdraw h.lane,
        noticeAnswer .ok slot r true) := by
  rw [noteAdmitFound, hstate]
  simp only [noteAdmitHeld, hdirection, hmark]

theorem noteExitFound_of_inside (hstate : r.state = .inside) :
    noteExitFound s slot r x =
      ((s.setRecord slot (r.exitedElsewhere (s.classOf r) x)).modifyZone (s.zoneOf r) ZoneRecord.countOut,
        noticeAnswer .ok slot (r.exitedElsewhere (s.classOf r) x) false) := by
  rw [noteExitFound, hstate]

theorem noteExitFound_of_held (hstate : r.state = .held h) :
    noteExitFound s slot r x = (s, noticeAnswer .held slot r false) := by
  rw [noteExitFound, hstate]

theorem noteExitFound_of_not_inside (hinside : r.state ≠ .inside) (hhold : ∀ h, r.state ≠ .held h) :
    noteExitFound s slot r x = (s, noticeAnswer .notInside slot r false) := by
  unfold noteExitFound
  split
  · exact absurd ‹_› hinside
  · exact absurd ‹_› (hhold _)
  · rfl

/-- A record that passed out holds nothing (R146). -/
theorem Record.exitedElsewhere_hold? (r : Record) (c : ClassRecord) (x : Notice) :
    (r.exitedElsewhere c x).hold? = none := by
  refine Record.hold?_of_state fun h => ?_
  simp only [Record.exitedElsewhere, outsideOrSpent]
  split <;> simp

/-- A record whose hold carries the revoke mark (R149). -/
def Record.revokedUnder (r : Record) (h : Hold) : Record := { r with state := .held { h with revokeMark := true } }

theorem ticketOfBytes?_bytesAt_ticketBytes (t : Ticket) : ticketOfBytes? (bytesAt (ticketBytes t) 0 8) = some t := by
  rw [bytesAt_zero, List.take_of_length_le (ticketBytes_length t).le, ticketOfBytes?_ticketBytes]

theorem revokeService_of_unknown {t : Ticket} (hlookup : s.table.lookup t = none) :
    revokeService s (ticketBytes t) = (s, .refuse .notFound) := by
  simp only [revokeService, ticketOfBytes?_bytesAt_ticketBytes, hlookup]

theorem revokeService_of_held {t : Ticket} (hlookup : s.table.lookup t = some (slot, r)) (hstate : r.state = .held h) :
    revokeService s (ticketBytes t) =
      ((s.setRecord slot (r.revokedUnder h)).sendWithdraw h.lane, noticeAnswer .ok slot (r.revokedUnder h) true) := by
  simp only [revokeService, ticketOfBytes?_bytesAt_ticketBytes, hlookup, hstate, Record.revokedUnder]

theorem revokeService_of_unheld {t : Ticket} (hlookup : s.table.lookup t = some (slot, r))
    (hhold : ∀ h, r.state ≠ .held h) :
    revokeService s (ticketBytes t) =
      (s.setRecord slot { r with state := .revoked },
        noticeAnswer .ok slot { r with state := .revoked } false) := by
  simp only [revokeService, ticketOfBytes?_bytesAt_ticketBytes, hlookup]

/-- The answer of a REVOKE, a refusal or one with a record's payload (R139, R200). -/
theorem exec_revoke_of_takes {t : Ticket} {u : State} {a : Answer} (htakes : s.TakesUplink 0x32 (ticketBytes t))
    (hserve : revokeService s (ticketBytes t) = (u, a)) :
    exec .revoke s = .next (u.replied 0x32 (ticketBytes t) a.status a.payload) :=
  congrArg _ (State.serveUplink_of_takes htakes (UplinkRequest.kind_of_catalogue rfl (ticketBytes_length t) rfl) hserve)

/-! ### What the effects leave -/

/-- A record written in an occupied slot is read back there, and the other slots are as they were. -/
theorem Table.set_reads {t : Table} (hget : t.get? slot = some r) (q : Record) :
    (t.set slot q).get? slot = some q ∧ ∀ k, k ≠ slot → (t.set slot q).get? k = t.get? k :=
  ⟨by simp [hget], fun k hk => by simp [Ne.symm hk]⟩

/-- The occupancy raised by 1, saturating at 65,535, in the zones of a state (R47). -/
theorem State.modifyZone_countIn_zones (s : State) (z : ZoneNo) :
    (s.modifyZone z ZoneRecord.countIn).zones = s.zones.set z
      { s.zones.get z with occupancy := BitVec.ofNat 16 (min ((s.zones.get z).occupancy.toNat + 1) 65535) } := by
  rw [State.modifyZone_zones, ZoneRecord.countIn_eq]

/-- The occupancy lowered by 1, saturating at 0, in a state (R47). -/
theorem State.modifyZone_countOut (s : State) (z : ZoneNo) :
    s.modifyZone z ZoneRecord.countOut =
      { s with
        zones := s.zones.set z
          { s.zones.get z with occupancy := BitVec.ofNat 16 ((s.zones.get z).occupancy.toNat - 1) } } := by
  rw [State.modifyZone, ZoneRecord.countOut_eq]

/-- What a DOUBLE entry leaves of a state whose zones alone the notice has changed: the record, which owes the report
when the journal is full; the other slots; the journal; and everything else as it was (R145, R159). -/
theorem State.reportDouble_spec {u v : State} (hv : u.reportDouble slot r x = v) (hu : u = { s with zones := u.zones })
    (hget : s.table.get? slot = some r) :
    v.table.get? slot = some { r with pendingReport := r.pendingReport || decide (1024 ≤ s.journal.length) } ∧
      (∀ k, k ≠ slot → v.table.get? k = s.table.get? k) ∧
      s.Reports v slot .double (.gate x.gate) x.time (s.zoneOf r) r.pendingReport ∧
      v.zones = u.zones ∧ v.commands = s.commands ∧
      v = { s with
        table := v.table, pendingCount := v.pendingCount, zones := v.zones, commands := v.commands
        journal := v.journal, nextSeq := v.nextSeq, attn := v.attn } := by
  rw [hu] at hv
  obtain ⟨hrecord, hothers, hreports⟩ := State.report_spec s { s with zones := u.zones } slot r .double
    (.gate x.gate) x.time (s.zoneOf r) hget ⟨rfl, rfl, rfl⟩
  have hframe := State.report_frame _ _ _ _ _ _ _ _ hv
  have hzones : v.zones = u.zones := by rw [hframe]
  have hcommands : v.commands = s.commands := by rw [hframe]
  subst hv
  refine ⟨hrecord, hothers, hreports, hzones, hcommands, ?_⟩
  rw [hzones, hcommands]
  exact hframe

end

end Sys2Proof.Machine

open Sys2Proof Sys2Proof.Machine

/-- Settles O54: VALID and OUTSIDE records are written, INSIDE, SPENT and REVOKED ones are reported as they stand, and
a HELD one is taken by its hold's direction and mark. -/
theorem noteAdmitByRecordState : Obligations.NoteAdmitByRecordState := by
  intro s t g time p hp htakes hg hwf
  obtain ⟨hecho, hunknown, answered⟩ := exec_notice_of_takes (c := .noteAdmit) rfl hp hg htakes rfl rfl
  refine ⟨hecho, hunknown, ?_⟩
  rintro slot r _ hforeign hlookup rfl
  have hget := Table.get?_of_lookup hwf hlookup
  cases hstate : r.state with
  | valid | outside =>
    obtain ⟨hwritten, hothers⟩ := Table.set_reads hget (r.admittedElsewhere ⟨t, g, time⟩)
    exact ⟨(s.setRecord slot (r.admittedElsewhere ⟨t, g, time⟩)).modifyZone (s.zoneOf r) ZoneRecord.countIn, _,
      hwritten, hothers, rfl, ⟨rfl, rfl, rfl⟩, rfl, raiseEntries_val _, State.modifyZone_countIn_zones _ _, rfl,
      answered hforeign hlookup (noteAdmitFound_of_admissible (by simp [hstate])) (noticePayload_of_unheld rfl)⟩
  | inside | spent | revoked =>
    obtain ⟨hrecord, hothers, hreports, hzones, hcommands, hframe⟩ :=
      State.reportDouble_spec (x := ⟨t, g, time⟩) rfl (rfl : s = _) hget
    have hhold : r.hold? = none := Record.hold?_of_state (by simp [hstate])
    have hexec := answered hforeign hlookup (noteAdmitFound_of_inadmissible (by simp [hstate]))
      (noticePayload_of_unheld hhold)
    rw [hstate] at hexec
    exact ⟨_, _, hrecord, hothers, hframe, ⟨hreports, by rw [hstate]⟩, hzones, hcommands, hexec⟩
  | held h =>
    dsimp only
    cases hdirection : h.direction with
    | OUT =>
      have hexec := answered hforeign hlookup (noteAdmitFound_of_exitHold hstate hdirection)
        (noticePayload_of_held hstate)
      rw [hdirection] at hexec
      exact ⟨s, r, hget, fun _ _ => rfl, rfl, rfl, hexec⟩
    | IN =>
      cases hmark : h.remoteMark with
      | none =>
        obtain ⟨hwritten, hothers⟩ := Table.set_reads hget (r.markedBy h ⟨t, g, time⟩)
        have hexec := answered hforeign hlookup (noteAdmitFound_of_entryHold hstate hdirection hmark)
          (noticePayload_of_held rfl)
        dsimp only at hexec
        rw [hdirection] at hexec
        exact ⟨((s.setRecord slot (r.markedBy h ⟨t, g, time⟩)).modifyZone (s.zoneOf r) ZoneRecord.countIn).sendWithdraw
            h.lane, _, hwritten, hothers, rfl, ⟨rfl, rfl, rfl⟩, by rw [← hdirection]; rfl,
          State.modifyZone_countIn_zones _ _, rfl, hexec⟩
      | some mark =>
        obtain ⟨hrecord, hothers, hreports, hzones, hcommands, hframe⟩ := State.reportDouble_spec (x := ⟨t, g, time⟩)
          (u := s.modifyZone (s.zoneOf r) ZoneRecord.countIn) rfl rfl hget
        have hexec := answered hforeign hlookup (noteAdmitFound_of_markedHold hstate hdirection hmark)
          (noticePayload_of_held hstate)
        rw [hdirection] at hexec
        exact ⟨((s.modifyZone (s.zoneOf r) ZoneRecord.countIn).reportDouble slot r ⟨t, g, time⟩).sendWithdraw h.lane, _,
          hrecord, hothers, congrArg (State.sendWithdraw · h.lane) hframe, ⟨hreports, by rw [hstate]⟩,
          hzones.trans (State.modifyZone_countIn_zones _ _), congrArg (· ++ [LaneCommand.withdraw h.lane]) hcommands,
          hexec⟩

/-- Settles O55: NOTE_EXIT writes an INSIDE record and leaves every other as it is, and REVOKE writes every record, a
HELD one in its hold. -/
theorem noteExitAndRevokeByRecordState : Obligations.NoteExitAndRevokeByRecordState := by
  refine ⟨?_, ?_⟩
  · intro s t g time p hp htakes hg hwf
    obtain ⟨hecho, hunknown, answered⟩ := exec_notice_of_takes (c := .noteExit) rfl hp hg htakes rfl rfl
    refine ⟨hecho, hunknown, ?_⟩
    rintro slot r _ hforeign hlookup rfl
    cases hstate : r.state with
    | inside =>
      obtain ⟨hwritten, hothers⟩ := Table.set_reads (Table.get?_of_lookup hwf hlookup)
        (r.exitedElsewhere (s.classOf r) ⟨t, g, time⟩)
      have hexec := answered hforeign hlookup (noteExitFound_of_inside hstate)
        (noticePayload_of_unheld (r.exitedElsewhere_hold? _ _))
      rw [State.modifyZone_countOut] at hexec
      exact ⟨_, _, hwritten, hothers, rfl, rfl, hexec⟩
    | held h => exact answered hforeign hlookup (noteExitFound_of_held hstate) (noticePayload_of_held hstate)
    | _ =>
      have hhold (h : Hold) : r.state ≠ .held h := by simp [hstate]
      have hexec := answered hforeign hlookup (noteExitFound_of_not_inside (by simp [hstate]) hhold)
        (noticePayload_of_unheld (Record.hold?_of_state hhold))
      rwa [hstate] at hexec
  · refine fun s t htakes hwf => ⟨fun hlookup => exec_revoke_of_takes htakes (revokeService_of_unknown hlookup),
      fun slot r hlookup => ?_⟩
    have hset := Table.set_reads (Table.get?_of_lookup hwf hlookup)
    cases hstate : r.state with
    | held h =>
      obtain ⟨hwritten, hothers⟩ := hset (r.revokedUnder h)
      exact ⟨(s.setRecord slot (r.revokedUnder h)).sendWithdraw h.lane, _, hwritten, hothers, rfl, rfl, rfl,
        exec_revoke_of_takes htakes (revokeService_of_held hlookup hstate)⟩
    | _ =>
      obtain ⟨hwritten, hothers⟩ := hset { r with state := .revoked }
      exact ⟨s.setRecord slot { r with state := .revoked }, _, hwritten, hothers, rfl, rfl, rfl,
        exec_revoke_of_takes htakes (revokeService_of_unheld hlookup (by simp [hstate]))⟩
end

section
/-! The requests that set the clock and the thresholds, and TAKE_JOURNAL (R52, R53, R164, R165, R179). -/

namespace Sys2Proof.Machine

/-! ### What the payloads carry, and the clamps -/

theorem field32_bytes32 (v : BitVec 32) : field32 (bytes32 v) 0 = v :=
  field32_of_drop (rest := []) (List.append_nil _).symm

theorem field16_bytes16 {n : Nat} (h : n < 65536) : (field16 (bytes16 n) 0).toNat = n := by
  rw [field16_of_drop (n := n) (rest := []) (List.append_nil _).symm, BitVec.toNat_ofNat, Nat.mod_eq_of_lt h]

/-- The watermark's clamp (R165). -/
theorem clamp_watermark (v : Nat) :
    clamp 1 Config.journalCapacity v = if v = 0 then 1 else if 1024 < v then 1024 else v := by
  simp only [clamp, Config.journalCapacity]
  split
  · omega
  · split <;> omega

/-- The link timeout's clamp (R179). -/
theorem max_minLinkTimeout (k : Nat) : max Config.minLinkTimeout k = if k < 2 then 2 else k := by
  simp only [Config.minLinkTimeout]
  split <;> omega

/-! ### The services -/

/-- An uplink request in service is answered with what its service answers, when its length and its presence byte are
right (R199, R200). -/
theorem exec_of_answered {s u : State} {c : Instr} {type : Byte} {p q : List Byte} {k : UplinkKind}
    {serve : State → List Byte → State × Answer} (hexec : exec c s = .next (s.serveUplink k serve))
    (htakes : s.TakesUplink type p) (htype : catalogue type = some (k, p.length)) (hpresence : badPresence k p = false)
    (hserve : serve s p = (u, .ok q)) : exec c s = .next (u.replied type p .ok q) := by
  rw [hexec, State.serveUplink_of_takes htakes (UplinkRequest.kind_of_catalogue htype rfl hpresence) hserve]
  rfl

/-- ATTN driven to its condition, in the words of R166. -/
theorem State.driveAttn_eq (s : State) :
    s.driveAttn = { s with attn := decide (s.watermark ≤ s.journal.length ∨ 0 < s.pendingCount) } := by
  rw [State.driveAttn, State.attnCondition, Bool.decide_or]

theorem setClockService_bytes32 (s : State) (v : BitVec 32) :
    setClockService s (bytes32 v) = ({ s with clock := ⟨⟨v, 0⟩, true⟩ }, .ok (bytes32 v ++ [0x00, 0x01])) := by
  rw [setClockService, field32_bytes32]
  rfl

theorem clockPayload_eq (c : Clock) :
    clockPayload c = bytes32 c.time.seconds ++ [c.time.fraction, if c.valid then 0x01 else 0x00] := by
  cases h : c.valid <;> simp [clockPayload, timeBytes, byteOfBool, h]

theorem setWatermarkService_bytes16 (s : State) {v w : Nat} (hv : v < 65536)
    (hw : w = if v = 0 then 1 else if 1024 < v then 1024 else v) :
    setWatermarkService s (bytes16 v) =
      ({ s with watermark := w, attn := decide (w ≤ s.journal.length ∨ 0 < s.pendingCount) }, .ok (bytes16 w)) := by
  rw [setWatermarkService, field16_bytes16 hv, clamp_watermark, ← hw, State.driveAttn_eq]

theorem setLinkTimeoutService_byte (s : State) {b : Byte} {w : Nat} (hw : w = if b.toNat < 2 then 2 else b.toNat) :
    setLinkTimeoutService s [b] = ({ s with gc := { s.gc with linkTimeout := w } }, .ok [byteOf w]) := by
  rw [hw, ← max_minLinkTimeout]
  rfl

/-- The entries taken, up to the count, and the entries left are those of the lesser of the count and the depth
(R164). -/
theorem takeJournalService_byte (s : State) {b : Byte} {k : Nat} (hk : k = min (min b.toNat 16) s.journal.length) :
    takeJournalService s [b] =
      ({ s with
          journal := s.journal.drop k
          attn := decide (s.watermark ≤ s.journal.length - k ∨ 0 < s.pendingCount) },
        .ok (byteOf k :: bytes16 (s.journal.length - k) ++ (s.journal.take k).flatMap Entry.bytes)) := by
  have hdrop : s.journal.drop (min b.toNat 16) = s.journal.drop k := by rw [hk, List.drop_eq_drop_min]
  have htake : s.journal.take (min b.toNat 16) = s.journal.take k := by rw [hk, List.take_eq_take_min]
  have hlength : (s.journal.take k).length = k := List.length_take_of_le (hk.trans_le (Nat.min_le_right _ _))
  have hbyte : byteAt [b] 0 = b := rfl
  simp only [takeJournalService, Config.takeLimit, hbyte, hdrop, htake, journalPayload, hlength, List.length_drop,
    State.driveAttn_eq]

end Sys2Proof.Machine

open Sys2Proof Sys2Proof.Machine

/-- Settles O53: each service stores what it reads off the payload, clamped where its rule says, and answers it. -/
theorem clockAndThresholdsAreSet : Obligations.ClockAndThresholdsAreSet :=
  ⟨fun s v htakes => exec_of_answered rfl htakes rfl rfl (setClockService_bytes32 s v),
    fun s htakes => exec_of_answered rfl htakes rfl rfl (congrArg (s, Answer.ok ·) (clockPayload_eq s.clock)),
    fun s _ hv htakes => ⟨_, _, rfl, rfl, exec_of_answered rfl htakes rfl rfl (setWatermarkService_bytes16 s hv rfl)⟩,
    fun s _ htakes => ⟨_, rfl, exec_of_answered rfl htakes rfl rfl (setLinkTimeoutService_byte s rfl)⟩⟩

/-- Settles O57: what stands past the depth is not there to take, so the service's own count and the lesser of it and
the depth take the same entries. -/
theorem takeJournalDrainsTheHead : Obligations.TakeJournalDrainsTheHead :=
  fun s _ htakes => ⟨_, _, rfl, rfl, exec_of_answered rfl htakes rfl rfl (takeJournalService_byte s rfl)⟩
end

section
/-! The services that journal for the part itself: forced reports, gate events and backfill (R62, R63, R157, R160,
R162, R163). -/

namespace Sys2Proof.Machine

/-- The end of a service whose entry is record-less: with room the entry stands at the tail under the next number, and
with the journal full it leaves no trace (R157, R160). -/
theorem State.reportRecordless_finish (s : State) (kind : Kind) (source : Source) (time : VenueTime) {t : State}
    (ht : (s.reportRecordless kind source time).finish = t) :
    t = { s with journal := t.journal, nextSeq := t.nextSeq, attn := t.attn, chosen := none } ∧
      (s.journal.length < 1024 →
        t.journal = s.journal ++ [⟨s.nextSeq, kind, source, time, none⟩] ∧ t.nextSeq = s.nextSeq + 1 ∧
          t.attn = t.attnCondition) ∧
      (1024 ≤ s.journal.length → t.journal = s.journal ∧ t.nextSeq = s.nextSeq ∧ t.attn = s.attn) := by
  subst ht
  obtain ⟨hroom, heq⟩ | ⟨hfull, heq⟩ := s.reportRecordless_cases kind source time <;> rw [heq]
  · exact ⟨rfl, fun _ => ⟨rfl, rfl, rfl⟩, fun hfull => absurd hroom (Nat.not_lt.mpr hfull)⟩
  · exact ⟨rfl, fun hroom => absurd hfull (Nat.not_le.mpr hroom), fun _ => ⟨rfl, rfl, rfl⟩⟩

/-- Backfill takes the flagged record of the lowest slot: the canonical form keeps the slots rising (R17, R162). -/
theorem Table.firstPending_eq {t : Table} {n slot : Nat} {r : Record} (hwf : t.wfFrom n = true) (hmem : (slot, r) ∈ t)
    (hpending : r.pendingReport = true) (hbefore : ∀ e ∈ t, e.1 < slot → e.2.pendingReport = false) :
    t.firstPending = some (slot, r) := by
  induction t generalizing n with
  | nil => cases hmem
  | cons e rest ih =>
    obtain ⟨k, q⟩ := e
    simp only [Table.wfFrom, Bool.and_eq_true] at hwf
    obtain ⟨-, hrest⟩ := hwf
    obtain heq | hmem := List.mem_cons.mp hmem
    · cases heq
      exact List.find?_cons_of_pos hpending
    · obtain ⟨hlater, -⟩ := Table.wfFrom_mem hrest hmem
      have hclear : q.pendingReport = false := hbefore (k, q) List.mem_cons_self hlater
      rw [Table.firstPending, List.find?_cons_of_neg (by simp [hclear])]
      exact ih hrest hmem fun e he => hbefore e (List.mem_cons_of_mem _ he)

section
variable {s : State}

theorem exec_forcedReportService_of_takes {n : Lane} (htakes : s.Takes (.forcedReport n)) :
    exec .forcedReportService s =
      .next ((s.takeForcedReport n).reportRecordless .forced (.lane n) s.clock.time).finish := by
  simp only [exec, execForcedReportService, (s.serving_eq_some _).mpr htakes]

theorem exec_gateEventService_of_takes {e : GateEvent} {rest : List GateEvent} (htakes : s.Takes .gateEvent)
    (hevents : s.gc.events = e :: rest) :
    exec .gateEventService s =
      .next (({ s with gc := { s.gc with events := rest } }.reportRecordless e.kind (.gate s.gc.gateId)
        s.clock.time).finish) := by
  simp only [exec, execGateEventService, (s.serving_eq_some _).mpr htakes, hevents]

theorem exec_backfillStep_of_takes {slot : Nat} {r : Record} (htakes : s.Takes .backfill)
    (hfirst : s.table.firstPending = some (slot, r)) (hroom : s.journal.length < 1024) :
    exec .backfillStep s =
      .next ((s.append .snapshot (.gate s.gc.gateId) s.clock.time
        (some (r.fields (s.zoneOf r)))).clearPending slot r).finish := by
  have hroom : s.journalHasRoom = true := decide_eq_true hroom
  simp only [exec, execBackfillStep, (s.serving_eq_some _).mpr htakes, hfirst, hroom]

end

end Sys2Proof.Machine

open Sys2Proof Sys2Proof.Machine

/-- Settles O32: what each service takes leaves the journal alone, and then its entry is appended or dropped; the record
backfilled is the first flagged one of the table. -/
theorem journalServicesAppendOneEntry : Obligations.JournalServicesAppendOneEntry := by
  refine ⟨fun n s htakes => ?_, fun e rest s htakes hevents => ?_,
    fun slot r s htakes hwf hroom hr hpending hbefore => ?_⟩
  · obtain ⟨hframe, hroom, hfull⟩ := (s.takeForcedReport n).reportRecordless_finish .forced (.lane n) s.clock.time rfl
    exact ⟨_, exec_forcedReportService_of_takes htakes, hframe, hroom, hfull⟩
  · obtain ⟨hframe, hroom, hfull⟩ := State.reportRecordless_finish { s with gc := { s.gc with events := rest } } e.kind
      (.gate s.gc.gateId) s.clock.time rfl
    exact ⟨_, exec_gateEventService_of_takes htakes hevents, hframe, hroom, hfull⟩
  · have hfirst : s.table.firstPending = some (slot, r) :=
      Table.firstPending_eq hwf (Table.get?_mem hr) hpending fun e he hlower =>
        hbefore e.1 hlower e.2 (Table.get?_of_mem hwf he)
    obtain ⟨hwritten, hothers⟩ := Table.set_reads hr { r with pendingReport := false }
    exact ⟨_, exec_backfillStep_of_takes htakes hfirst hroom, rfl, hwritten, hothers⟩
end

section
/-! What each command makes of the journal (R153, R157, R159 to R164): one entry at most at the tail, but for a warm
reset's run of entries, and a removal at the head by TAKE_JOURNAL alone. -/

namespace Sys2Proof.Machine

/-- The journal and the next sequence number. -/
def State.book (s : State) : List Entry × BitVec 16 := (s.journal, s.nextSeq)

/-- From one state to another at most `k` entries have come to the journal's tail, each raising the next sequence
number, and none has gone. -/
def State.Files (s : State) (k : Nat) (t : State) : Prop :=
  ∃ added : List Entry, t.book = (s.journal ++ added, s.nextSeq + BitVec.ofNat 16 added.length) ∧ added.length ≤ k

section
variable {s t u v : State} {j k : Nat}

theorem State.Files.of_book (h : t.book = s.book) : s.Files k t :=
  ⟨[], by rw [h, List.append_nil, List.length_nil, BitVec.add_zero]; rfl, Nat.zero_le k⟩

/-- What comes before and after without touching the journal does not count. -/
theorem State.Files.around (h : u.Files k v) (hbefore : u.book = s.book) (hafter : t.book = v.book) :
    s.Files k t := by
  obtain ⟨hjournal, hnumber⟩ := Prod.mk.inj hbefore
  obtain ⟨added, hbook, hlength⟩ := h
  exact ⟨added, by rw [hafter, hbook, hjournal, hnumber], hlength⟩

theorem State.Files.trans (h : s.Files j t) (h' : t.Files k u) : s.Files (j + k) u := by
  obtain ⟨first, hfirst, hj⟩ := h
  obtain ⟨second, hsecond, hk⟩ := h'
  obtain ⟨hjournal, hnumber⟩ := Prod.mk.inj hfirst
  refine ⟨first ++ second, ?_, List.length_append.trans_le (Nat.add_le_add hj hk)⟩
  rw [hsecond, hjournal, hnumber, List.append_assoc, BitVec.add_assoc, ← BitVec.ofNat_add, List.length_append]

/-! ### Entries -/

theorem State.Files.append (s : State) (kind : Kind) (source : Source) (time : VenueTime)
    (fields : Option RecordFields) : s.Files 1 (s.append kind source time fields) := ⟨[_], rfl, le_rfl⟩

theorem State.Files.report (s : State) (slot : Nat) (r : Record) (kind : Kind) (source : Source) (time : VenueTime)
    (zone : ZoneNo) : s.Files 1 (s.report slot r kind source time zone) := by
  obtain ⟨-, heq⟩ | ⟨-, heq⟩ := s.report_cases slot r kind source time zone <;> rw [heq]
  · exact .append ..
  · obtain ⟨q, -, -, heq⟩ | ⟨-, heq⟩ := s.flagPending_cases slot <;> rw [heq] <;> exact .of_book rfl

theorem State.Files.reportRecordless (s : State) (kind : Kind) (source : Source) (time : VenueTime) :
    s.Files 1 (s.reportRecordless kind source time) := by
  obtain ⟨-, heq⟩ | ⟨-, heq⟩ := s.reportRecordless_cases kind source time <;> rw [heq]
  · exact .append ..
  · exact .of_book rfl

/-! ### The ends of holds, and the services of the lanes -/

theorem State.HoldEnds.files {slot : Nat} {r : Record} {x : Hold} (hends : s.HoldEnds slot r x t) : s.Files 1 t := by
  cases hends with
  | silent => exact .of_book rfl
  | reported q zs kind source time zone =>
    exact (State.Files.report (s.rewrite slot q zs) slot q kind source time zone).around rfl rfl

theorem State.LaneWork.files {n : Lane} (hwork : s.LaneWork n t) : s.Files 1 t := by
  cases hwork with
  | cancel slot r x u _ _ hends => exact hends.files.around rfl rfl
  | grant cred slot r =>
    obtain ⟨zs, -, heq⟩ := s.grantHold_frame n cred slot r
    rw [heq]
    exact .of_book rfl
  | _ => exact .of_book rfl

theorem State.files_serveCommit (s : State) (n : Lane) (capture : VenueTime) : s.Files 1 (s.serveCommit n capture) := by
  unfold State.serveCommit
  split
  · exact (s.endCommit_holdEnds _ _ _ capture).files.around rfl rfl
  · exact .of_book rfl

theorem State.files_serveNonCommit (s : State) (n : Lane) (howEnded : HoldEnd) :
    s.Files 1 (s.serveNonCommit n howEnded) := by
  unfold State.serveNonCommit
  split
  · exact (s.endNonCommit_holdEnds _ _ _ s.clock.time).files.around rfl rfl
  · exact .of_book rfl

/-- A warm reset files an entry at most for each hold it ends (R97, R105). -/
theorem State.files_warmReset (s : State) (pins : WarmPins) : ∃ k, s.Files k (s.warmReset pins) := by
  have hall : ∃ k, s.Files k s.endAllHolds :=
    State.endAllHolds_induction (P := fun u => ∃ k, s.Files k u)
      (fun _ _ _ _ _ hs _ _ hends => hs.imp' (· + 1) fun _ h => h.trans hends.files) ⟨0, .of_book rfl⟩
  rw [State.warmReset_eq]
  generalize s.endAllHolds = u at hall
  exact hall.imp fun _ h => h.around rfl rfl

/-! ### What is due, and the choice of a service -/

theorem State.book_settleExpiry (s : State) (n : Lane) : (s.settleExpiry n).book = s.book := by
  unfold State.settleExpiry
  split <;> rfl

theorem State.book_settleTimeout (s : State) : s.settleTimeout.book = s.book := by
  unfold State.settleTimeout
  split <;> rfl

theorem State.book_settleEvac (s : State) : s.settleEvac.book = s.book := by
  unfold State.settleEvac
  split
  · rfl
  · split <;> rfl

theorem State.book_foldl_settleExpiry (l : List Lane) (s : State) :
    (l.foldl State.settleExpiry s).book = s.book := by
  induction l generalizing s with
  | nil => rfl
  | cons n l ih => exact (ih _).trans (s.book_settleExpiry n)

theorem State.book_settleDue (s : State) : s.settleDue.book = s.book :=
  calc s.settleDue.book
    _ = (lanesAscending.foldl State.settleExpiry s).settleTimeout.book := State.book_settleEvac _
    _ = (lanesAscending.foldl State.settleExpiry s).book := State.book_settleTimeout _
    _ = s.book := State.book_foldl_settleExpiry _ s

theorem State.book_arrive (s : State) : s.arrive.book = s.book := by
  unfold State.arrive
  split
  · rfl
  · dsimp only
    split <;> rfl

theorem State.book_settleAll (s : State) : s.settleAll.book = s.book :=
  (State.book_settleDue _).trans s.book_arrive

theorem State.book_countTick (s : State) : s.countTick.book = s.book := rfl

theorem State.book_holdReset (s : State) : s.holdReset.book = s.book := rfl

theorem State.book_settleCommands (s : State) : s.settleCommands.book = s.book := by
  rw [s.settleCommands_frame]
  rfl

theorem State.book_choose (s : State) (item : Service) : (s.choose item).book = s.book := by
  rw [s.choose_frame]
  rfl

/-! ### The services of uplink requests -/

theorem book_loadTicketService (s : State) (p : List Byte) : (loadTicketService s p).1.book = s.book := by
  unfold loadTicketService
  repeat' split
  all_goals rfl

theorem book_dropTicketService (s : State) (p : List Byte) : (dropTicketService s p).1.book = s.book := by
  unfold dropTicketService
  repeat' split
  all_goals rfl

theorem book_clearTableService (s : State) (p : List Byte) : (clearTableService s p).1.book = s.book := by
  unfold clearTableService
  repeat' split
  all_goals rfl

theorem book_queryTicketService (s : State) (p : List Byte) : (queryTicketService s p).1.book = s.book := by
  unfold queryTicketService
  repeat' split
  all_goals rfl

theorem book_setClassService (s : State) (p : List Byte) : (setClassService s p).1.book = s.book := by
  unfold setClassService
  split <;> rfl

theorem book_setZoneService (s : State) (p : List Byte) : (setZoneService s p).1.book = s.book := by
  unfold setZoneService
  split <;> rfl

theorem book_revokeService (s : State) (p : List Byte) : (revokeService s p).1.book = s.book := by
  unfold revokeService
  repeat' split
  all_goals rfl

theorem book_openGateService (s : State) (p : List Byte) : (openGateService s p).1.book = s.book := by
  unfold openGateService
  split <;> rfl

theorem book_closeGateService (s : State) (p : List Byte) : (closeGateService s p).1.book = s.book := by
  unfold closeGateService
  split <;> rfl

theorem book_setIdentityService (s : State) (p : List Byte) : (setIdentityService s p).1.book = s.book := by
  unfold setIdentityService
  repeat' split
  all_goals rfl

theorem book_setLaneService (s : State) (p : List Byte) : (setLaneService s p).1.book = s.book := by
  unfold setLaneService
  split
  · rfl
  · dsimp only
    split <;> rfl

theorem book_readTalliesService (s : State) (p : List Byte) : (readTalliesService s p).1.book = s.book := by
  unfold readTalliesService
  split
  · rfl
  · dsimp only
    split <;> rfl

theorem files_noteAdmitHeld (s : State) (slot : Nat) (r : Record) (h : Hold) (x : Notice) :
    s.Files 1 (noteAdmitHeld s slot r h x).1 := by
  unfold noteAdmitHeld
  dsimp only
  split
  · exact .of_book rfl
  · exact .of_book rfl
  · exact (State.Files.report (s.modifyZone (s.zoneOf r) ZoneRecord.countIn) slot r ..).around rfl rfl

theorem files_noteAdmitFound (s : State) (slot : Nat) (r : Record) (x : Notice) :
    s.Files 1 (noteAdmitFound s slot r x).1 := by
  unfold noteAdmitFound
  dsimp only
  split
  · exact .of_book rfl
  · exact .of_book rfl
  · exact .report ..
  · exact .report ..
  · exact .report ..
  · exact files_noteAdmitHeld ..

theorem files_noteExitFound (s : State) (slot : Nat) (r : Record) (x : Notice) :
    s.Files 1 (noteExitFound s slot r x).1 := by
  unfold noteExitFound
  split <;> exact .of_book rfl

theorem files_noticeService {found : State → Nat → Record → Notice → State × Answer}
    (hfound : ∀ (s : State) (slot : Nat) (r : Record) (x : Notice), s.Files 1 (found s slot r x).1) (s : State)
    (p : List Byte) : s.Files 1 (noticeService found s p).1 := by
  unfold noticeService
  split
  · exact .of_book rfl
  · split
    · exact .of_book rfl
    · split
      · exact .of_book rfl
      · exact hfound ..

/-! ### Every command -/

theorem State.files_serveUplink {kind : UplinkKind} {serve : State → List Byte → State × Answer}
    (hserve : ∀ (s : State) (p : List Byte), s.Files k (serve s p).1) (s : State) :
    s.Files k (s.serveUplink kind serve) := by
  obtain ⟨r, -, -, -, heq⟩ | heq := s.serveUplink_cases kind serve <;> rw [heq]
  · exact (hserve s r.payload).around rfl rfl
  · exact .of_book rfl

theorem execServiceArbiterChoice_book (h : execServiceArbiterChoice s = .next t) : t.book = s.book := by
  unfold execServiceArbiterChoice at h
  split at h
  · dsimp only at h
    split at h <;> obtain rfl := next_inj h
    · exact (State.book_choose _ _).trans s.book_settleCommands
    · exact s.book_settleCommands
  · obtain rfl := next_inj h; rfl

theorem execVenueClockTick_book (h : execVenueClockTick s = .next t) : t.book = s.book := by
  unfold execVenueClockTick at h
  split at h <;> obtain rfl := next_inj h
  · rfl
  · exact (State.book_countTick _).trans (State.book_settleDue s.tickClock)

theorem execReplySent_book (h : execReplySent s = .next t) : t.book = s.book := by
  unfold execReplySent at h
  split at h
  · split at h <;> obtain rfl := next_inj h <;> rfl
  · obtain rfl := next_inj h; rfl

theorem execRstAssertion_book (h : execRstAssertion s = .next t) : t.book = s.book := by
  unfold execRstAssertion at h
  split at h <;> obtain rfl := next_inj h
  · rfl
  · exact (State.book_holdReset _).trans s.book_settleAll

theorem execArmTimerExpiry_book {n : Lane} (h : execArmTimerExpiry n s = .next t) : t.book = s.book := by
  unfold execArmTimerExpiry at h
  split at h <;> obtain rfl := next_inj h
  · rfl
  · exact s.book_settleExpiry n

theorem execLinkMonitorTimeout_book (h : execLinkMonitorTimeout s = .next t) : t.book = s.book := by
  unfold execLinkMonitorTimeout at h
  split at h <;> obtain rfl := next_inj h
  · rfl
  · exact s.book_settleTimeout

theorem execUplinkFrameArrival_book (h : execUplinkFrameArrival s = .next t) : t.book = s.book := by
  unfold execUplinkFrameArrival at h
  split at h <;> obtain rfl := next_inj h
  · rfl
  · exact s.book_arrive

theorem execCharacterReceived_book {c : Character} (h : execCharacterReceived c s = .next t) : t.book = s.book := by
  unfold execCharacterReceived at h
  split at h <;> obtain rfl := next_inj h
  · rfl
  · exact s.book_arrive

theorem execCommitCompletion_files (h : execCommitCompletion s = .next t) : s.Files 1 t := by
  unfold execCommitCompletion at h
  split at h <;> obtain rfl := next_inj h
  · exact s.files_serveCommit _ _
  · exact .of_book rfl

theorem execExpiryCompletion_files (h : execExpiryCompletion s = .next t) : s.Files 1 t := by
  unfold execExpiryCompletion at h
  split at h <;> obtain rfl := next_inj h
  · exact s.files_serveNonCommit _ _
  · exact .of_book rfl

theorem execWithdrawnCompletion_files (h : execWithdrawnCompletion s = .next t) : s.Files 1 t := by
  unfold execWithdrawnCompletion at h
  split at h <;> obtain rfl := next_inj h
  · exact s.files_serveNonCommit _ _
  · exact .of_book rfl

theorem execForcedReportService_files (h : execForcedReportService s = .next t) : s.Files 1 t := by
  unfold execForcedReportService at h
  split at h <;> obtain rfl := next_inj h
  · exact (State.Files.reportRecordless (s.takeForcedReport _) ..).around rfl rfl
  · exact .of_book rfl

theorem execGateEventService_files (h : execGateEventService s = .next t) : s.Files 1 t := by
  unfold execGateEventService at h
  split at h <;> obtain rfl := next_inj h
  · rename_i e rest _ _
    exact (State.Files.reportRecordless { s with gc := { s.gc with events := rest } } ..).around rfl rfl
  · exact .of_book rfl

theorem execBackfillStep_files (h : execBackfillStep s = .next t) : s.Files 1 t := by
  unfold execBackfillStep at h
  split at h <;> obtain rfl := next_inj h
  · exact (State.Files.append ..).around rfl rfl
  · exact .of_book rfl
  · exact .of_book rfl

theorem execPresentCode_files (h : execPresentCode s = .next t) : s.Files 1 t := by
  unfold execPresentCode at h
  split at h <;> obtain rfl := next_inj h
  · exact (s.present_work _ _ (normalizeCode_uid _ _ _)).files.around rfl rfl
  · exact .of_book rfl

theorem execPresentCard_files (h : execPresentCard s = .next t) : s.Files 1 t := by
  unfold execPresentCard at h
  split at h <;> obtain rfl := next_inj h
  · exact (s.present_work _ _ (normalizeCard_uid _ _ _ _)).files.around rfl rfl
  · exact .of_book rfl

theorem execCancel_files (h : execCancel s = .next t) : s.Files 1 t := by
  unfold execCancel at h
  split at h <;> obtain rfl := next_inj h
  · exact (s.cancelHold_work _).files.around rfl rfl
  · exact .of_book rfl

theorem execWarmReset_files {pins : WarmPins} (h : execWarmReset pins s = .next t) : ∃ k, s.Files k t := by
  unfold execWarmReset at h
  split at h
  · obtain rfl := next_inj h; exact s.files_warmReset pins
  · split at h <;> obtain rfl := next_inj h
    · exact (s.settleAll.files_warmReset pins).imp fun _ h => h.around s.book_settleAll rfl
    · exact ⟨0, .of_book rfl⟩

theorem execTakeJournal_book (h : execTakeJournal s = .next t) : ∃ k, t.book = (s.journal.drop k, s.nextSeq) := by
  obtain rfl := next_inj h
  obtain ⟨r, -, -, -, heq⟩ | heq := s.serveUplink_cases .takeJournal takeJournalService <;> rw [heq]
  · exact ⟨_, rfl⟩
  · exact ⟨0, rfl⟩

/-- Every command but the resets and TAKE_JOURNAL files one entry at most. -/
theorem exec_files {c : Instr} (hpower : ∀ pins, c ≠ .powerOnReset pins) (hwarm : ∀ pins, c ≠ .warmReset pins)
    (htake : c ≠ .takeJournal) (h : exec c s = .next t) : s.Files 1 t := by
  have served {kind : UplinkKind} {serve : State → List Byte → State × Answer}
      (hserve : ∀ (s : State) (p : List Byte), s.Files 1 (serve s p).1)
      (ht : (.next (s.serveUplink kind serve) : Host.Outcome State Fault Refusal) = .next t) : s.Files 1 t := by
    obtain rfl := next_inj ht
    exact State.files_serveUplink hserve s
  have quiet {serve : State → List Byte → State × Answer} (hserve : ∀ s p, (serve s p).1.book = s.book) (s : State)
      (p : List Byte) : s.Files 1 (serve s p).1 := .of_book (hserve s p)
  cases c <;> simp only [exec] at h
  case powerOnReset pins => exact absurd rfl (hpower pins)
  case warmReset pins => exact absurd rfl (hwarm pins)
  case takeJournal => exact absurd rfl htake
  case commitCompletion => exact execCommitCompletion_files h
  case expiryCompletion => exact execExpiryCompletion_files h
  case withdrawnCompletion => exact execWithdrawnCompletion_files h
  case forcedReportService => exact execForcedReportService_files h
  case gateEventService => exact execGateEventService_files h
  case backfillStep => exact execBackfillStep_files h
  case presentCode => exact execPresentCode_files h
  case presentCard => exact execPresentCard_files h
  case cancel => exact execCancel_files h
  case noteAdmit => exact served (files_noticeService files_noteAdmitFound) h
  case noteExit => exact served (files_noticeService files_noteExitFound) h
  case loadTicket => exact served (quiet book_loadTicketService) h
  case dropTicket => exact served (quiet book_dropTicketService) h
  case clearTable => exact served (quiet book_clearTableService) h
  case queryTicket => exact served (quiet book_queryTicketService) h
  case setClass => exact served (quiet book_setClassService) h
  case setZone => exact served (quiet book_setZoneService) h
  case revoke => exact served (quiet book_revokeService) h
  case openGate => exact served (quiet book_openGateService) h
  case closeGate => exact served (quiet book_closeGateService) h
  case setIdentity => exact served (quiet book_setIdentityService) h
  case setLane => exact served (quiet book_setLaneService) h
  case readTallies => exact served (quiet book_readTalliesService) h
  case setClock | readClock | setWatermark | setLinkTimeout | status | restart | unknownRequest =>
    exact served (fun _ _ => .of_book rfl) h
  all_goals refine .of_book ?_
  case serviceArbiterChoice => exact execServiceArbiterChoice_book h
  case venueClockTick => exact execVenueClockTick_book h
  case replySent => exact execReplySent_book h
  case rstAssertion => exact execRstAssertion_book h
  case armTimerExpiry => exact execArmTimerExpiry_book h
  case linkMonitorTimeout => exact execLinkMonitorTimeout_book h
  case uplinkFrameArrival => exact execUplinkFrameArrival_book h
  case characterReceived => exact execCharacterReceived_book h
  case transferBegin | transferEnd => obtain rfl := next_inj h; rfl
  case evacAssertion | evacRelease | evacPinChange | encoderEvent | armCommand | withdrawCommand | poll |
      interByteGap =>
    simp only [execEvacAssertion, execEvacRelease, execEncoderEvent, execArmCommand, execWithdrawCommand,
      execInterByteGap, execEvacPinChange, execPoll] at h
    split at h <;> obtain rfl := next_inj h <;> rfl

/-- What a command but a power-on reset makes of the journal: a removal at the head and entries at the tail. -/
theorem exec_journal {c : Instr} (hpower : ∀ pins, c ≠ .powerOnReset pins) (h : exec c s = .next t) :
    ∃ k added, t.journal = s.journal.drop k ++ added ∧ t.nextSeq = s.nextSeq + BitVec.ofNat 16 added.length ∧
      (c ≠ .takeJournal → k = 0) ∧ ((∀ pins, c ≠ .warmReset pins) → added.length ≤ 1) := by
  by_cases htake : c = .takeJournal
  · subst htake
    obtain ⟨k, hbook⟩ := execTakeJournal_book h
    obtain ⟨hjournal, hnumber⟩ := Prod.mk.inj hbook
    exact ⟨k, [], hjournal.trans (List.append_nil _).symm, hnumber.trans (BitVec.add_zero _).symm,
      fun hne => absurd rfl hne, fun _ => Nat.zero_le 1⟩
  · have hfiles : ∃ k, s.Files k t ∧ ((∀ pins, c ≠ .warmReset pins) → k ≤ 1) := by
      by_cases hwarm : ∀ pins, c ≠ .warmReset pins
      · exact ⟨1, exec_files hpower hwarm htake h, fun _ => le_rfl⟩
      · obtain ⟨pins, hc⟩ := not_forall_not.mp hwarm
        subst hc
        exact (execWarmReset_files h).imp fun _ hfiles => ⟨hfiles, fun hne => absurd rfl (hne pins)⟩
    obtain ⟨k, ⟨added, hbook, hlength⟩, hk⟩ := hfiles
    obtain ⟨hjournal, hnumber⟩ := Prod.mk.inj hbook
    exact ⟨0, added, hjournal, hnumber, fun _ => rfl, fun hwarm => hlength.trans (hk hwarm)⟩

end

theorem State.JournalOk.exec {c : Instr} {s t : State} (hs : s.JournalOk) (h : exec c s = .next t) : t.JournalOk := by
  refine exec_induction (P := State.JournalOk) (fun _ _ h he => he.journalOk h) (fun s t h ht => ?_)
    (fun s pins _ => ((State.powerOn_inv pins).withPending s.pending).journal) hs h
  obtain ⟨r, u, a, -, -, hwork, -⟩ := ht
  exact (h.tableWork hwork).of_eq rfl rfl

end Sys2Proof.Machine

open Sys2Proof Sys2Proof.Machine

/-- Settles O15: every effect, the three table requests and a power-on keep the journal's bounds and numbers, and each
command's own arm says at which end it changes the journal. -/
theorem stepKeepsTheJournal : Obligations.StepKeepsTheJournal := by
  intro s t hs hstep
  refine ⟨step_induction (P := State.JournalOk) (fun _ _ h => h) (fun _ _ _ => State.JournalOk.exec) hs hstep, ?_⟩
  intro c rest hpending hpower
  simp only [step, hpending] at hstep
  exact exec_journal (s := { s with pending := rest }) hpower hstep
end

section
/-! OPEN_GATE, CLOSE_GATE and SET_IDENTITY by the gate state and by the values carried (R170, R171, R176). -/

namespace Sys2Proof.Machine

section
variable {s u : State}

/-- An uplink request in service is answered with whatever its service answers, when its length and its presence byte
are right (R199, R200). -/
theorem exec_of_takes {c : Instr} {type : Byte} {p : List Byte} {k : UplinkKind}
    {serve : State → List Byte → State × Answer} {a : Answer} (hexec : exec c s = .next (s.serveUplink k serve))
    (htakes : s.TakesUplink type p) (htype : catalogue type = some (k, p.length)) (hpresence : badPresence k p = false)
    (hserve : serve s p = (u, a)) : exec c s = .next (u.replied type p a.status a.payload) := by
  rw [hexec, State.serveUplink_of_takes htakes (UplinkRequest.kind_of_catalogue htype rfl hpresence) hserve]

/-! ### The gate state -/

/-- OPEN_GATE opens the gate unless it stands at EVAC (R170). -/
theorem openGateService_eq (s : State) (p : List Byte) :
    openGateService s p =
      if s.gc.gate = .evac then (s, .refuse .evacActive)
      else ({ s with gc := { s.gc with gate := .opened } }, .ok [0x01]) := by
  cases h : s.gc.gate <;> simp [openGateService, h, GateState.code]

/-- CLOSE_GATE closes the gate unless it stands at EVAC (R171). -/
theorem closeGateService_eq (s : State) (p : List Byte) :
    closeGateService s p =
      if s.gc.gate = .evac then (s, .refuse .evacActive)
      else ({ s with gc := { s.gc with gate := .closed } }, .ok [0x00]) := by
  cases h : s.gc.gate <;> simp [closeGateService, h, GateState.code]

/-! ### Event codes and the identity -/

/-- A nibble above 9 is no digit of an event code (R176). -/
theorem eventCodeOfByte?_eq_none {b : Byte} (h : 9 < b.toNat / 16 ∨ 9 < b.toNat % 16) : eventCodeOfByte? b = none := by
  obtain h | h := h
  · have htens : digit? (b.toNat / 16) = none := dif_neg (by omega)
    rw [eventCodeOfByte?, htens]
  · have hunits : digit? (b.toNat % 16) = none := dif_neg (by omega)
    rw [eventCodeOfByte?, hunits]
    cases digit? (b.toNat / 16) <;> rfl

/-- An event code's byte is read back as that event code (R176, R204). -/
theorem eventCodeOfByte?_eventCodeByte (e : EventCode) : eventCodeOfByte? (eventCodeByte e) = some e := by
  have hbyte : (eventCodeByte e).toNat = 16 * e.tens.val + e.units.val := by
    rw [eventCodeByte, byteOf_toNat]
    omega
  have htens : digit? ((eventCodeByte e).toNat / 16) = some e.tens := digit?_eq_some.mpr (by omega)
  have hunits : digit? ((eventCodeByte e).toNat % 16) = some e.units := digit?_eq_some.mpr (by omega)
  rw [eventCodeOfByte?, htens, hunits]

/-- A gate id out of range, a nibble above 9 and the event code 00 are refused (R176). -/
theorem setIdentityService_refuses (s : State) {g code : Byte}
    (h : g.toNat = 0 ∨ 63 < g.toNat ∨ 9 < code.toNat / 16 ∨ 9 < code.toNat % 16 ∨ code = 0x00) :
    setIdentityService s [g, code] = (s, .refuse .badArg) := by
  have hgate : byteAt [g, code] 0 = g := rfl
  have hcode : byteAt [g, code] 1 = code := rfl
  have hcases : gateIdOf? g = none ∨ eventCodeOfByte? code = none ∨ eventCodeOfByte? code = some .unset := by
    obtain h | h | h | h | rfl := h
    · exact .inl (gateIdOf?_eq_none (.inl h))
    · exact .inl (gateIdOf?_eq_none (.inr h))
    · exact .inr (.inl (eventCodeOfByte?_eq_none (.inl h)))
    · exact .inr (.inl (eventCodeOfByte?_eq_none (.inr h)))
    · exact .inr (.inr (eventCodeOfByte?_eventCodeByte .unset))
  rw [setIdentityService, hgate, hcode]
  obtain h | h | h := hcases
  · rw [h]
  · rw [h]
    cases gateIdOf? g <;> rfl
  · rw [h]
    cases gateIdOf? g <;> rfl

/-- A set gate id and a set event code are written, and sent back (R176). -/
theorem setIdentityService_writes (s : State) {g : GateId} {e : EventCode} (hg : g ≠ 0) (he : e ≠ .unset) :
    setIdentityService s [byteOf g.val, eventCodeByte e] =
      ({ s with gc := { s.gc with gateId := g, eventCode := e } }, .ok [byteOf g.val, eventCodeByte e]) := by
  have hgate : gateIdOf? (byteAt [byteOf g.val, eventCodeByte e] 0) = some g := gateIdOf?_byteOf hg
  have hcode : eventCodeOfByte? (byteAt [byteOf g.val, eventCodeByte e] 1) = some e :=
    eventCodeOfByte?_eventCodeByte e
  simp only [setIdentityService, hgate, hcode, if_neg he, identityPayload]

end

end Sys2Proof.Machine

open Sys2Proof Sys2Proof.Machine

/-- Settles O58: each service is its two cases, and an event code's byte reads back. -/
theorem gateRequestsActByGateState : Obligations.GateRequestsActByGateState := by
  refine ⟨fun s htakes => ?_, fun s htakes => ?_, fun s g code htakes hfaulty => ?_, ?_⟩
  · have hservice := openGateService_eq s []
    split <;> rename_i hgate
    · exact exec_of_takes rfl htakes rfl rfl (hservice.trans (if_pos hgate))
    · exact exec_of_takes rfl htakes rfl rfl (hservice.trans (if_neg hgate))
  · have hservice := closeGateService_eq s []
    split <;> rename_i hgate
    · exact exec_of_takes rfl htakes rfl rfl (hservice.trans (if_pos hgate))
    · exact exec_of_takes rfl htakes rfl rfl (hservice.trans (if_neg hgate))
  · exact exec_of_takes rfl htakes rfl rfl (setIdentityService_refuses s hfaulty)
  · rintro s g tens units p hg hset rfl htakes
    have he : (⟨tens, units⟩ : EventCode) ≠ .unset := fun h => hset (EventCode.mk.inj h)
    exact exec_of_takes rfl htakes rfl rfl (setIdentityService_writes s hg he)
end

section
/-! The arrival of a complete frame (R177, R197 to R199, R201). -/

namespace Sys2Proof.Machine

section
variable {s : State} {frame : List Byte}

/-- A complete frame whose bytes do not sum to 0x00 is discarded (R197). -/
theorem exec_uplinkFrameArrival_of_unsound (hrst : s.rstAsserted = false)
    (hrx : s.uplink.receiver.complete? = some frame) (hsum : sum8 frame ≠ 0) :
    exec .uplinkFrameArrival s = .next { s with uplink := { s.uplink with receiver := .hunt } } := by
  simp only [exec, execUplinkFrameArrival, hrst, Bool.false_eq_true, if_false, State.arrive, hrx, if_neg hsum]

/-- A complete frame that sums to 0x00 is heard by the link monitor and hands its request over (R177, R197, R199). -/
theorem exec_uplinkFrameArrival_of_sound (hrst : s.rstAsserted = false)
    (hrx : s.uplink.receiver.complete? = some frame) (hsum : sum8 frame = 0) :
    exec .uplinkFrameArrival s = .next
      { s with
        gc := s.gc.hearFrame
        uplink := UplinkPort.takeRequest { s.uplink with receiver := .hunt } (requestOfFrame frame) } := by
  simp only [exec, execUplinkFrameArrival, hrst, Bool.false_eq_true, if_false, State.arrive, hrx, if_pos hsum]

end

/-- A request enters an EMPTY slot; otherwise it is answered BUSY while fewer than 7 BUSY replies wait (R199, R201). -/
theorem UplinkPort.takeRequest_eq (u : UplinkPort) (r : UplinkRequest) :
    u.takeRequest r =
      if u.slot = .empty then { u with slot := .waiting r }
      else if (u.replies.filter fun q => q.status = .busy).length < 7 then
        { u with replies := u.replies ++ [⟨r.type, .busy, []⟩] }
      else u := by
  cases hslot : u.slot with
  | empty => simp only [UplinkPort.takeRequest, hslot, if_pos]
  | _ => simp only [UplinkPort.takeRequest, hslot, reduceCtorEq, if_false, UplinkPort.answerBusy, Config.busyCapacity]

/-- The request of a frame with L payload bytes: its type byte and those bytes (R197). -/
theorem requestOfFrame_of_length {length : Nat} {frame : List Byte} (h : frame.length = length + 5) :
    requestOfFrame frame = ⟨byteAt frame 3, (frame.drop 4).take length⟩ := by
  rw [requestOfFrame, h, Nat.add_sub_cancel]
  rfl

end Sys2Proof.Machine

open Sys2Proof Sys2Proof.Machine

/-- Settles O46: the sum decides whether the frame is heard, and the slot and the BUSY replies what becomes of its
request. -/
theorem frameArrivalFillsTheSlot : Obligations.FrameArrivalFillsTheSlot := by
  intro s length frame hrst hreceiver hlength
  have hcomplete : s.uplink.receiver.complete? = some frame := by
    rw [hreceiver, Receiver.complete?_body_of_eq hlength]
  refine ⟨exec_uplinkFrameArrival_of_unsound hrst hcomplete, fun hsum => ?_⟩
  rw [exec_uplinkFrameArrival_of_sound hrst hcomplete hsum, GateController.hearFrame_eq, UplinkPort.takeRequest_eq,
    requestOfFrame_of_length hlength]
end

section
/-! The reset cause (R182): what the two resets write, and that no other command writes it. -/

namespace Sys2Proof.Machine

/-- The reset cause stands as it stood. -/
def State.KeepsCause (s t : State) : Prop := t.gc.resetCause = s.gc.resetCause

section
variable {s t u : State}

theorem State.KeepsCause.trans (h : s.KeepsCause t) (h' : t.KeepsCause u) : s.KeepsCause u := Eq.trans h' h

/-- What leaves the Gate Controller alone keeps the reset cause. -/
theorem State.KeepsCause.of_gc (h : t.gc = s.gc) : s.KeepsCause t := congrArg _ h

theorem State.KeepsCause.report (s : State) (slot : Nat) (r : Record) (kind : Kind) (source : Source)
    (time : VenueTime) (zone : ZoneNo) : s.KeepsCause (s.report slot r kind source time zone) := by
  rw [s.report_frame slot r kind source time zone _ rfl]
  rfl

theorem State.KeepsCause.reportRecordless (s : State) (kind : Kind) (source : Source) (time : VenueTime) :
    s.KeepsCause (s.reportRecordless kind source time) := by
  rw [s.reportRecordless_frame]
  rfl

/-! ### The work of the services -/

theorem State.HoldEnds.keepsCause {slot : Nat} {r : Record} {x : Hold} (hends : s.HoldEnds slot r x t) :
    s.KeepsCause t := by
  cases hends with
  | silent => rfl
  | reported q zs kind source time zone => exact .report (s.rewrite slot q zs) slot q kind source time zone

theorem State.LaneWork.keepsCause {n : Lane} (hwork : s.LaneWork n t) : s.KeepsCause t := by
  cases hwork with
  | cancel slot r x u _ _ hends => exact hends.keepsCause.trans rfl
  | grant cred slot r =>
    obtain ⟨zs, -, heq⟩ := s.grantHold_frame n cred slot r
    rw [heq]
    rfl
  | _ => rfl

theorem State.UplinkWork.keepsCause (hwork : s.UplinkWork t) : s.KeepsCause t := by
  cases hwork with
  | double slot r source time zone => exact .report s slot r .double source time zone
  | doubleHeld slot r x zs source time zone => exact .report { s with zones := zs } slot r .double source time zone
  | _ => rfl

theorem State.TableWork.keepsCause (hwork : s.TableWork t) : s.KeepsCause t := by
  cases hwork with
  | load _ hwork => cases hwork <;> rfl
  | _ => rfl

/-! ### What is due -/

theorem State.KeepsCause.settleExpiry (s : State) (n : Lane) : s.KeepsCause (s.settleExpiry n) := by
  unfold State.settleExpiry
  split <;> rfl

theorem State.KeepsCause.settleTimeout (s : State) : s.KeepsCause s.settleTimeout := by
  unfold State.settleTimeout
  split <;> rfl

theorem State.KeepsCause.settleEvac (s : State) : s.KeepsCause s.settleEvac := by
  unfold State.settleEvac
  split
  · rfl
  · split <;> rfl

theorem State.KeepsCause.foldl_settleExpiry (l : List Lane) (s : State) :
    s.KeepsCause (l.foldl State.settleExpiry s) := by
  induction l generalizing s with
  | nil => rfl
  | cons n l ih => exact (settleExpiry s n).trans (ih _)

theorem State.KeepsCause.settleDue (s : State) : s.KeepsCause s.settleDue :=
  ((foldl_settleExpiry lanesAscending s).trans (settleTimeout _)).trans (settleEvac _)

theorem State.KeepsCause.arrive (s : State) : s.KeepsCause s.arrive := by
  unfold State.arrive
  split
  · rfl
  · dsimp only
    split
    · exact congrArg (·.resetCause) s.gc.hearFrame_eq
    · rfl

theorem State.KeepsCause.settleAll (s : State) : s.KeepsCause s.settleAll := (arrive s).trans (settleDue _)

theorem State.KeepsCause.countTick (s : State) : s.KeepsCause s.countTick := by
  have hmonitor : s.gc.tickMonitor.resetCause = s.gc.resetCause := by rw [s.gc.tickMonitor_frame]
  exact hmonitor

theorem State.KeepsCause.holdReset (s : State) : s.KeepsCause s.holdReset := rfl

/-! ### The commands -/

theorem execServiceArbiterChoice_keepsCause (h : execServiceArbiterChoice s = .next t) : s.KeepsCause t := by
  have hsettled : s.KeepsCause s.settleCommands := .of_gc (by rw [s.settleCommands_frame])
  unfold execServiceArbiterChoice at h
  split at h
  · dsimp only at h
    split at h <;> obtain rfl := next_inj h
    · exact hsettled.trans (.of_gc (by rw [State.choose_frame]))
    · exact hsettled
  · obtain rfl := next_inj h; rfl

theorem execVenueClockTick_keepsCause (h : execVenueClockTick s = .next t) : s.KeepsCause t := by
  unfold execVenueClockTick at h
  split at h <;> obtain rfl := next_inj h
  · rfl
  · exact (State.KeepsCause.settleDue s.tickClock).trans (.countTick _)

theorem execReplySent_keepsCause (h : execReplySent s = .next t) : s.KeepsCause t := by
  unfold execReplySent at h
  split at h
  · split at h <;> obtain rfl := next_inj h <;> rfl
  · obtain rfl := next_inj h; rfl

theorem State.KeepsCause.serveCommit {n : Lane} {capture : VenueTime} :
    s.KeepsCause (s.serveCommit n capture) := by
  unfold State.serveCommit
  split
  · exact (s.endCommit_holdEnds _ _ _ capture).keepsCause.trans rfl
  · rfl

theorem State.KeepsCause.serveNonCommit {n : Lane} {howEnded : HoldEnd} :
    s.KeepsCause (s.serveNonCommit n howEnded) := by
  unfold State.serveNonCommit
  split
  · exact (s.endNonCommit_holdEnds _ _ _ s.clock.time).keepsCause.trans rfl
  · rfl

theorem queryTicketService_keepsCause (s : State) (p : List Byte) : s.KeepsCause (queryTicketService s p).1 := by
  unfold queryTicketService
  split
  · rfl
  · split <;> rfl

/-- A served request keeps the reset cause, when its service's work does. -/
theorem State.KeepsCause.served {k : UplinkKind} {serve : State → List Byte → State × Answer}
    (hserve : ∀ p, s.KeepsCause (serve s p).1)
    (h : (.next (s.serveUplink k serve) : Host.Outcome State Fault Refusal) = .next t) : s.KeepsCause t := by
  obtain rfl := next_inj h
  obtain ⟨r, -, -, -, heq⟩ | heq := s.serveUplink_cases k serve <;> rw [heq]
  · exact (hserve r.payload).trans rfl
  · rfl

/-- No command but the two resets writes the reset cause (R182). -/
theorem exec_keepsCause {c : Instr} (hpower : ∀ pins, c ≠ .powerOnReset pins) (hwarm : ∀ pins, c ≠ .warmReset pins)
    (h : exec c s = .next t) : s.KeepsCause t := by
  have tabled (hc : c = .loadTicket ∨ c = .dropTicket ∨ c = .clearTable) : s.KeepsCause t := by
    obtain rfl | ⟨r, u, a, -, -, hwork, -⟩ := exec_tableWork hc h
    · rfl
    · exact hwork.keepsCause.trans rfl
  have worked {k : UplinkKind} {serve : State → List Byte → State × Answer}
      (hserve : ∀ s p, ServiceWorks State.UplinkWork s (serve s p))
      (ht : (.next (s.serveUplink k serve) : Host.Outcome State Fault Refusal) = .next t) : s.KeepsCause t :=
    .served (fun p => (hserve s p).1.keepsCause) ht
  cases c
  case powerOnReset pins => exact absurd rfl (hpower pins)
  case warmReset pins => exact absurd rfl (hwarm pins)
  case loadTicket => exact tabled (.inl rfl)
  case dropTicket => exact tabled (.inr (.inl rfl))
  case clearTable => exact tabled (.inr (.inr rfl))
  all_goals simp only [exec] at h
  case rstAssertion =>
    unfold execRstAssertion at h
    split at h <;> obtain rfl := next_inj h
    · rfl
    · exact (State.KeepsCause.settleAll s).trans (.holdReset _)
  case venueClockTick => exact execVenueClockTick_keepsCause h
  case armTimerExpiry n =>
    unfold execArmTimerExpiry at h
    split at h <;> obtain rfl := next_inj h
    · rfl
    · exact .settleExpiry s n
  case linkMonitorTimeout =>
    unfold execLinkMonitorTimeout at h
    split at h <;> obtain rfl := next_inj h
    · rfl
    · exact .settleTimeout s
  case commitCompletion =>
    unfold execCommitCompletion at h
    split at h <;> obtain rfl := next_inj h
    · exact .serveCommit
    · rfl
  case expiryCompletion | withdrawnCompletion =>
    simp only [execExpiryCompletion, execWithdrawnCompletion] at h
    split at h <;> obtain rfl := next_inj h
    · exact .serveNonCommit
    · rfl
  case forcedReportService =>
    unfold execForcedReportService at h
    split at h <;> obtain rfl := next_inj h
    · exact (State.KeepsCause.reportRecordless (s.takeForcedReport _) ..).trans rfl
    · rfl
  case gateEventService =>
    unfold execGateEventService at h
    split at h <;> obtain rfl := next_inj h
    · rename_i e rest _ _
      exact (State.KeepsCause.reportRecordless { s with gc := { s.gc with events := rest } } ..).trans rfl
    · rfl
  case presentCode =>
    unfold execPresentCode at h
    split at h <;> obtain rfl := next_inj h
    · exact (s.present_work _ _ (normalizeCode_uid _ _ _)).keepsCause.trans rfl
    · rfl
  case presentCard =>
    unfold execPresentCard at h
    split at h <;> obtain rfl := next_inj h
    · exact (s.present_work _ _ (normalizeCard_uid _ _ _ _)).keepsCause.trans rfl
    · rfl
  case cancel =>
    unfold execCancel at h
    split at h <;> obtain rfl := next_inj h
    · exact (s.cancelHold_work _).keepsCause.trans rfl
    · rfl
  case uplinkFrameArrival =>
    unfold execUplinkFrameArrival at h
    split at h <;> obtain rfl := next_inj h
    · rfl
    · exact .arrive s
  case characterReceived =>
    unfold execCharacterReceived at h
    split at h <;> obtain rfl := next_inj h
    · rfl
    · exact (State.KeepsCause.arrive s).trans rfl
  case replySent => exact execReplySent_keepsCause h
  case serviceArbiterChoice => exact execServiceArbiterChoice_keepsCause h
  case setClock | readClock | takeJournal | setWatermark | status | restart | unknownRequest =>
    refine .served (fun _ => ?_) h
    rfl
  case queryTicket => exact .served (queryTicketService_keepsCause s) h
  case noteAdmit => exact worked (noticeService_works noteAdmitFound_works) h
  case noteExit => exact worked (noticeService_works noteExitFound_works) h
  case revoke => exact worked revokeService_works h
  case setClass => exact worked setClassService_works h
  case setZone => exact worked setZoneService_works h
  case openGate => exact worked openGateService_works h
  case closeGate => exact worked closeGateService_works h
  case setIdentity => exact worked setIdentityService_works h
  case setLinkTimeout => exact worked setLinkTimeoutService_works h
  case setLane => exact worked setLaneService_works h
  case readTallies => exact worked readTalliesService_works h
  case transferBegin | transferEnd => obtain rfl := next_inj h; rfl
  case evacAssertion | evacRelease | evacPinChange | encoderEvent | armCommand | withdrawCommand | poll |
      interByteGap | backfillStep =>
    simp only [execEvacAssertion, execEvacRelease, execEncoderEvent, execArmCommand, execWithdrawCommand,
      execInterByteGap, execEvacPinChange, execPoll, execBackfillStep] at h
    split at h <;> obtain rfl := next_inj h <;> rfl

/-- A warm reset writes WARM (R182). -/
theorem State.warmReset_resetCause (s : State) (pins : WarmPins) : (s.warmReset pins).gc.resetCause = .warm := rfl

/-- A power-on reset writes POWER (R182). -/
theorem State.powerOn_resetCause (pins : PowerPins) : (State.powerOn pins).gc.resetCause = .power := by
  have hgc : (State.powerOn pins).gc = .powerOn pins.evac := rfl
  rw [hgc, GateController.powerOn_eq]

end

end Sys2Proof.Machine

open Sys2Proof Sys2Proof.Machine

/-- Settles O18: each reset writes its own cause, every other command keeps it, and STATUS sends its code first. -/
theorem resetCauseRecordsTheLastReset : Obligations.ResetCauseRecordsTheLastReset := by
  refine ⟨fun pins s t h => ?_, fun pins s t hdue h => ?_, fun c s t hpower hwarm h => exec_keepsCause hpower hwarm h,
    fun s t htakes h => ?_⟩
  · obtain rfl := next_inj h
    exact State.powerOn_resetCause pins
  · simp only [exec, execWarmReset] at h
    split at h
    · obtain rfl := next_inj h
      exact s.warmReset_resetCause pins
    · rename_i hrst
      rw [if_pos (hdue.resolve_left hrst)] at h
      obtain rfl := next_inj h
      exact s.settleAll.warmReset_resetCause pins
  · obtain ⟨-, hstatus, -⟩ := reportsRestartAndUnknown
    obtain rfl := next_inj ((hstatus s htakes).symm.trans h)
    exact ⟨_, rfl, rfl⟩
end

section
/-! The end of a transfer on a lane link: the reply that is read, the inbound bytes as a request, a bad frame or none,
and the bits of LSOn (R183 to R195). -/

namespace Sys2Proof.Machine

/-! ### A port at the end of a transfer -/

/-- The noted reply is read when no newer one stands in the slot and the bits clocked out cover its frame (R192). -/
theorem Port.settleRead_eq (p : Port) (noted : Option LaneReply) (overtaken : Bool) (bits : List Bool) :
    p.settleRead noted overtaken (bits.length / 8) =
      if ∃ r, noted = some r ∧ overtaken = false ∧ 8 * r.frame.length ≤ bits.length then
        { p with reply := none, ready := false }
      else p := by
  have hbytes (n : Nat) : n ≤ bits.length / 8 ↔ 8 * n ≤ bits.length := by omega
  cases noted with
  | none => simp [Port.settleRead]
  | some r => cases overtaken <;> simp [Port.settleRead, hbytes]

theorem Port.settleRead_overrun (p : Port) (noted : Option LaneReply) (overtaken : Bool) (bytes : Nat) :
    (p.settleRead noted overtaken bytes).overrun = p.overrun := by
  unfold Port.settleRead
  split
  · split <;> rfl
  · rfl

theorem Port.settleRead_transfer (p : Port) (noted : Option LaneReply) (overtaken : Bool) (bytes : Nat) :
    (p.settleRead noted overtaken bytes).transfer = p.transfer := by
  unfold Port.settleRead
  split
  · split <;> rfl
  · rfl

/-- A reply placed covers the reply slot and READY, which are all that a read changes: whether the noted reply was read
before does not show (R191). -/
theorem Port.place_settleRead (p : Port) (noted : Option LaneReply) (overtaken : Bool) (bytes : Nat) (r : LaneReply) :
    (p.settleRead noted overtaken bytes).place r = p.place r := by
  simp only [Port.place, Port.settleRead_overrun, Port.settleRead_transfer, Port.settleRead_request]

/-- A bad frame is answered at once (R187). -/
theorem Port.takeInbound_badFrame (p : Port) : p.takeInbound .badFrame = p.place (.badFrame false) := rfl

/-- A request enters an EMPTY slot, or leaves the overrun marker (R188, R189). -/
theorem Port.takeInbound_request (p : Port) (q : LaneRequest) :
    p.takeInbound (.request q) =
      if p.request = .empty then { p with request := .waiting q } else { p with overrun := true } := by
  unfold Port.takeInbound
  cases p.request <;> rfl

/-- A transfer that begins with filler, or clocks in no whole byte, carries no request (R184). -/
theorem parseInbound_of_filler {bytes : List Byte} (h : bytes.head? = none ∨ bytes.head? = some 0x00) :
    parseInbound bytes = .noRequest := by
  cases bytes with
  | nil => rfl
  | cons len rest =>
    obtain rfl : len = 0 := by simpa using h
    rfl

section
variable {n : Lane} {s : State}

theorem exec_transferBegin_of_none (h : (s.ports.get n).transfer = .none) :
    exec (.transferBegin n) s = .next (s.setPort n
      { s.ports.get n with
        transfer := if s.rstAsserted then .ignored else .active (s.ports.get n).reply false }) := by
  simp only [exec, execTransferBegin, Port.beginTransfer, h]

theorem exec_transferEnd_of_ignored (bits : List Bool) (h : (s.ports.get n).transfer = .ignored) :
    exec (.transferEnd n bits) s = .next (s.setPort n { s.ports.get n with transfer := .none }) := by
  simp only [exec, execTransferEnd, Port.endTransfer, h]

/-- At the end of a transfer in progress the read is settled first, then the inbound bytes are taken (R183). -/
theorem exec_transferEnd_of_active (bits : List Bool) {noted : Option LaneReply} {overtaken : Bool}
    (hrst : s.rstAsserted = false) (h : (s.ports.get n).transfer = .active noted overtaken) :
    exec (.transferEnd n bits) s = .next (s.setPort n
      ((Port.settleRead { s.ports.get n with transfer := .none } noted overtaken (bits.length / 8)).takeInbound
        (parseInbound (bytesOfBits bits)))) := by
  simp only [exec, execTransferEnd, Port.endTransfer, h, hrst, Bool.false_eq_true, if_false]

/-- A transfer without a request does no more than settle the read. -/
theorem exec_transferEnd_of_filler {bits : List Bool} {noted : Option LaneReply} {overtaken : Bool}
    (hrst : s.rstAsserted = false) (h : (s.ports.get n).transfer = .active noted overtaken)
    (hfiller : (bytesOfBits bits).head? = none ∨ (bytesOfBits bits).head? = some 0x00) :
    exec (.transferEnd n bits) s = .next (s.setPort n
      (if ∃ r, noted = some r ∧ overtaken = false ∧ 8 * r.frame.length ≤ bits.length then
        { s.ports.get n with transfer := .none, reply := none, ready := false }
      else { s.ports.get n with transfer := .none })) := by
  rw [exec_transferEnd_of_active bits hrst h, parseInbound_of_filler hfiller, Port.settleRead_eq]
  rfl

/-- A reply placed during a transfer: the slot is FULL, READY is asserted, and the transfer's noted reply is overtaken
(R191, R192). -/
theorem State.repliedLane_port_of_active (r : LaneReply) {noted : Option LaneReply} {overtaken : Bool}
    (h : (s.ports.get n).transfer = .active noted overtaken) :
    ((s.repliedLane n r).ports.get n).transfer = .active noted true ∧
      ((s.repliedLane n r).ports.get n).reply ≠ none ∧ ((s.repliedLane n r).ports.get n).ready = true := by
  simp [State.repliedLane, h]

end

/-! ### Frames, sound and bad -/

/-- The faults of a frame's length and check byte, whatever it carries (R184, R185, R187). -/
theorem parseInbound_of_unsound {len : Byte} {rest : List Byte} (hlen : len ≠ 0)
    (h : len.toNat < 2 ∨ 48 < len.toNat ∨ rest.length < len.toNat ∨ sum8 (len :: rest.take len.toNat) ≠ 0) :
    parseInbound (len :: rest) = .badFrame := by
  simp only [parseInbound, if_neg hlen]
  split_ifs with hrange hshort hsum
  · rfl
  · rfl
  · rfl
  · tauto

/-- A frame with sound length and check byte is what its type byte and content say. -/
theorem parseInbound_of_sound {len type : Byte} {rest body : List Byte} (hlow : 2 ≤ len.toNat) (hhigh : len.toNat ≤ 48)
    (hlong : len.toNat ≤ rest.length) (hsum : sum8 (len :: rest.take len.toNat) = 0)
    (hcontent : rest.take (len.toNat - 1) = type :: body) : parseInbound (len :: rest) = laneRequestOf type body := by
  have hlen : len ≠ 0 := by
    rintro rfl
    exact absurd hlow (by decide)
  have hrange : ¬(len.toNat < 2 ∨ 48 < len.toNat) := by omega
  simp only [parseInbound, if_neg hlen, if_neg hrange, if_neg (Nat.not_lt.mpr hlong), hsum, ne_eq, not_true_eq_false,
    if_false, hcontent]

theorem side?_eq_none {b : Byte} (h : b ≠ 0x01 ∧ b ≠ 0x02) : side? b = none := by
  obtain ⟨hin, hout⟩ := h
  rw [side?, if_neg hin, if_neg hout]

theorem side?_code (d : Side) : side? d.code = some d := by cases d <;> rfl

theorem laneRequestOf_of_unknown_type {type : Byte} (h : type ∉ [(0x41 : Byte), 0x42, 0x43, 0x44]) (body : List Byte) :
    laneRequestOf type body = .badFrame := by
  simp only [List.mem_cons, List.not_mem_nil, or_false, not_or] at h
  obtain ⟨hcode, hcard, hcancel, hpoll⟩ := h
  simp only [laneRequestOf, hcode, hcard, hcancel, hpoll, if_false]

/-- CANCEL and POLL have no content behind the type byte (R186). -/
theorem laneRequestOf_of_overlong {type : Byte} {body : List Byte} (htype : type = 0x43 ∨ type = 0x44)
    (hbody : body ≠ []) : laneRequestOf type body = .badFrame := by
  obtain rfl | rfl := htype <;> simp [laneRequestOf, hbody]

/-- PRESENT_CODE without a side, or with a side that is neither IN nor OUT (R186). -/
theorem laneRequestOf_code_of_bad {body : List Byte}
    (h : body.length < 1 ∨ byteAt body 0 ≠ 0x01 ∧ byteAt body 0 ≠ 0x02) : laneRequestOf 0x41 body = .badFrame := by
  cases body with
  | nil => rfl
  | cons side text =>
    have hside : side? side = none := side?_eq_none (h.resolve_left (by simp))
    simp [laneRequestOf, hside]

/-- PRESENT_CARD without a side and a UID length, with a UID longer than the frame, or with a side that is neither
IN nor OUT (R186). -/
theorem laneRequestOf_card_of_bad {body : List Byte}
    (h : body.length < 2 ∨ body.length < (byteAt body 1).toNat + 2 ∨ byteAt body 0 ≠ 0x01 ∧ byteAt body 0 ≠ 0x02) :
    laneRequestOf 0x42 body = .badFrame := by
  match body with
  | [] => rfl
  | [_] => rfl
  | side :: uidLength :: rest =>
    obtain hshort | huid | hbad := h
    · simp at hshort
    · have hlong : ¬uidLength.toNat ≤ rest.length := by
        have hsecond : byteAt (side :: uidLength :: rest) 1 = uidLength := rfl
        rw [hsecond, List.length_cons, List.length_cons] at huid
        omega
      cases hside : side? side <;> simp [laneRequestOf, hside, hlong]
    · have hside : side? side = none := side?_eq_none hbad
      simp [laneRequestOf, hside]

theorem byteAt_take {p : List Byte} {i n : Nat} (h : i < n) : byteAt (p.take n) i = byteAt p i := by
  simp [byteAt, List.getElem?_take_of_lt h]

/-- The faults of a frame's type byte and content, the length byte and the check byte being sound (R186, R187). -/
theorem parseInbound_of_bad_content {len type : Byte} {tail : List Byte} (hlow : 2 ≤ len.toNat)
    (hhigh : len.toNat ≤ 48) (hlong : len.toNat ≤ (type :: tail).length)
    (hsum : sum8 (len :: (type :: tail).take len.toNat) = 0)
    (h : type ∉ [(0x41 : Byte), 0x42, 0x43, 0x44] ∨ ((type = 0x43 ∨ type = 0x44) ∧ len.toNat ≠ 2) ∨
      (type = 0x41 ∧ len.toNat < 3) ∨ (type = 0x42 ∧ len.toNat < 4) ∨
      (type = 0x42 ∧ len.toNat < (byteAt tail 1).toNat + 4) ∨
      ((type = 0x41 ∨ type = 0x42) ∧ byteAt tail 0 ≠ 0x01 ∧ byteAt tail 0 ≠ 0x02)) :
    parseInbound (len :: type :: tail) = .badFrame := by
  have hcontent : (type :: tail).take (len.toNat - 1) = type :: tail.take (len.toNat - 2) := by
    obtain ⟨k, hk⟩ := Nat.exists_eq_add_of_le hlow
    rw [hk, Nat.add_sub_cancel_left, Nat.add_comm 2 k]
    rfl
  have hlength : (tail.take (len.toNat - 2)).length = len.toNat - 2 := by
    rw [List.length_cons] at hlong
    rw [List.length_take]
    omega
  rw [parseInbound_of_sound hlow hhigh hlong hsum hcontent]
  obtain htype | ⟨htype, hlen⟩ | ⟨rfl, hlen⟩ | ⟨rfl, hlen⟩ | ⟨rfl, huid⟩ | ⟨rfl | rfl, hside⟩ := h
  · exact laneRequestOf_of_unknown_type htype _
  · refine laneRequestOf_of_overlong htype fun hnil => ?_
    rw [hnil, List.length_nil] at hlength
    omega
  · exact laneRequestOf_code_of_bad (.inl (by omega))
  · exact laneRequestOf_card_of_bad (.inl (by omega))
  · refine laneRequestOf_card_of_bad ?_
    by_cases hfour : len.toNat < 4
    · exact .inl (by omega)
    · refine .inr (.inl ?_)
      rw [byteAt_take (by omega)]
      omega
  · refine laneRequestOf_code_of_bad ?_
    by_cases hthree : len.toNat < 3
    · exact .inl (by omega)
    · rw [byteAt_take (by omega)]
      exact .inr hside
  · refine laneRequestOf_card_of_bad ?_
    by_cases hfour : len.toNat < 4
    · exact .inl (by omega)
    · exact .inr (.inr (by rwa [byteAt_take (by omega)]))

/-! ### A request's frame -/

/-- A request's content names the request (R186). -/
theorem laneRequestOf_content {q : LaneRequest} (hq : q.content.length ≤ 47) :
    ∃ type body, q.content = type :: body ∧ laneRequestOf type body = .request q := by
  cases q with
  | code side text => exact ⟨_, _, rfl, by simp [laneRequestOf, side?_code]⟩
  | card side uid payload =>
    have huid : (byteOf uid.length).toNat = uid.length := by
      simp only [LaneRequest.content, List.length_cons, List.length_append] at hq
      rw [byteOf_toNat]
      omega
    exact ⟨_, _, rfl, by simp [laneRequestOf, side?_code, huid]⟩
  | cancel => exact ⟨_, _, rfl, rfl⟩
  | poll => exact ⟨_, _, rfl, rfl⟩

/-- A request's frame is understood, whatever filler follows it (R184, R185). -/
theorem parseInbound_frame {q : LaneRequest} (hq : q.content.length ≤ 47) (filler : List Byte) :
    parseInbound (q.frame ++ filler) = .request q := by
  obtain ⟨type, body, hcontent, hrequest⟩ := laneRequestOf_content hq
  have hpos : 0 < q.content.length := by simp [hcontent]
  have hlen : (byteOf (q.content.length + 1)).toNat = q.content.length + 1 := by
    rw [byteOf_toNat]
    omega
  have hframe : q.frame ++ filler = byteOf (q.content.length + 1) :: (q.content ++
      [checkByte (byteOf (q.content.length + 1) :: q.content)] ++ filler) := rfl
  rw [hframe, ← hrequest]
  refine parseInbound_of_sound ?_ ?_ ?_ ?_ ?_
  · omega
  · omega
  · simp only [hlen, List.length_append, List.length_singleton]
    omega
  · rw [hlen, List.take_left' (by simp)]
    exact sum8_append_checkByte (byteOf (q.content.length + 1) :: q.content)
  · rw [hlen, Nat.add_sub_cancel, List.append_assoc, List.take_left, hcontent]

/-! ### The bits of bytes -/

/-- A byte is made of its eight bits again, as each of the 256 bytes shows. -/
theorem byte_of_bits (b : Byte) :
    BitVec.ofNat 8 (128 * bitValue (bitAt b 7) + 64 * bitValue (bitAt b 6) + 32 * bitValue (bitAt b 5)
      + 16 * bitValue (bitAt b 4) + 8 * bitValue (bitAt b 3) + 4 * bitValue (bitAt b 2) + 2 * bitValue (bitAt b 1)
      + bitValue (bitAt b 0)) = b := by
  revert b
  decide

theorem bytesOfBits_of_partial {bits : List Bool} (h : bits.length < 8) : bytesOfBits bits = [] := by
  unfold bytesOfBits
  split
  · simp only [List.length_cons] at h
    omega
  · rfl

/-- The bytes whose bits come in are read back, a partial byte after them discarded (R183). -/
theorem bytesOfBits_bitsOfBytes (bytes : List Byte) {partialByte : List Bool} (h : partialByte.length < 8) :
    bytesOfBits (bitsOfBytes bytes ++ partialByte) = bytes := by
  induction bytes with
  | nil => exact bytesOfBits_of_partial h
  | cons b bytes ih => exact congrArg₂ List.cons (byte_of_bits b) ih

/-- The bits of bytes, position by position: 0 past the end, as the filler is. -/
theorem bitsOfBytes_getD (l : List Byte) (i : Nat) :
    (bitsOfBytes l).getD i false = bitAt (byteAt l (i / 8)) (7 - i % 8) := by
  obtain hi | hi := Nat.lt_or_ge (i / 8) l.length
  · have hmod : i % 8 < 8 := Nat.mod_lt i (by decide)
    have hbyte : byteAt l (i / 8) = l[i / 8] := by simp [byteAt, hi]
    conv_lhs => rw [← Nat.div_add_mod i 8]
    rw [List.getD_eq_getElem?_getD, bitsOfBytes,
      getElem?_flatMap_of_length (n := 8) (fun _ => by rfl) (List.getElem?_eq_getElem hi) hmod, hbyte]
    interval_cases i % 8 <;> rfl
  · have hlength : (bitsOfBytes l).length = 8 * l.length := by
      simp [bitsOfBytes, List.length_flatMap, Nat.mul_comm]
    have hbyte : byteAt l (i / 8) = 0 := by simp [byteAt, hi]
    rw [List.getD_eq_default _ _ (by omega), hbyte]
    simp [bitAt]

section
variable {n : Lane} {s : State}

/-- LSOn is not driven outside a transfer (R183). -/
theorem State.laneOutBit_of_none (h : (s.ports.get n).transfer = .none) (i : Nat) : s.laneOutBit n i = none := by
  simp [State.laneOutBit, State.laneOutByte, h]

/-- LSOn in a transfer in progress carries the noted reply's bits, then filler; filler alone under RST (R183, R192,
R195). -/
theorem State.laneOutBit_of_active {noted : Option LaneReply} {overtaken : Bool}
    (h : (s.ports.get n).transfer = .active noted overtaken) (i : Nat) :
    s.laneOutBit n i = some (if s.rstAsserted then false else
      (bitsOfBytes (noted.elim [] LaneReply.frame)).getD i false) := by
  simp only [State.laneOutBit, State.laneOutByte, h]
  cases hrst : s.rstAsserted with
  | true => simp [bitAt]
  | false =>
    rw [bitsOfBytes_getD]
    cases noted <;> rfl

end

end Sys2Proof.Machine

open Sys2Proof Sys2Proof.Machine

/-- Settles O43: a request's frame reads back from its bits and, the read settled, enters the slot or is discarded; LSOn
carries the noted reply. -/
theorem laneFramesAreUnderstood : Obligations.LaneFramesAreUnderstood := by
  refine ⟨fun q filler hq => parseInbound_frame hq filler,
    fun bytes partialByte hpartial => bytesOfBits_bitsOfBytes bytes hpartial, ?_, fun n s i => ⟨?_, ?_⟩⟩
  · intro n s p settled bits q noted overtaken hrst hp htransfer hrequest hsettled
    subst hp
    have hread : settled =
        Port.settleRead { s.ports.get n with transfer := .none } noted overtaken (bits.length / 8) := by
      rw [hsettled, Port.settleRead_eq]
    rw [exec_transferEnd_of_active bits hrst htransfer, hrequest, ← hread, Port.takeInbound_request, hread,
      Port.settleRead_request]
    rfl
  · exact fun hnone => State.laneOutBit_of_none hnone i
  · rintro noted overtaken _ hactive rfl
    rw [State.laneOutBit_of_active hactive]
    cases noted <;> rfl

/-- Settles O44: each fault makes the frame bad, and the answer covers whatever the read left in the reply slot. -/
theorem badFramesAreAnswered : Obligations.BadFramesAreAnswered := by
  refine ⟨fun len rest hlen hfault => ?_, ?_⟩
  · by_cases hunsound :
        len.toNat < 2 ∨ 48 < len.toNat ∨ rest.length < len.toNat ∨ sum8 (len :: rest.take len.toNat) ≠ 0
    · exact parseInbound_of_unsound hlen hunsound
    · simp only [not_or, Nat.not_lt, ne_eq, not_not] at hunsound
      obtain ⟨hlow, hhigh, hlong, hsum⟩ := hunsound
      cases rest with
      | nil => exact absurd hlong (by simp only [List.length_nil]; omega)
      | cons type tail =>
        obtain hone | hbig | hshort | hbadsum | hcontent := hfault
        · omega
        · omega
        · omega
        · exact absurd hsum hbadsum
        · exact parseInbound_of_bad_content hlow hhigh hlong hsum (by simpa [byteAt] using hcontent)
  · rintro n s p bits hrst rfl ⟨noted, overtaken, hactive⟩ hbad
    rw [exec_transferEnd_of_active bits hrst hactive, hbad, Port.takeInbound_badFrame, Port.place_settleRead]
    rfl

/-- Settles O42: a transfer notes the slot's reply and reads it when whole; one placed meanwhile has overtaken it. -/
theorem transfersReadTheReply : Obligations.TransfersReadTheReply := by
  refine ⟨?_, fun n s p hp => ⟨?_, ?_, ?_⟩⟩
  · rintro n s r _ bits noted overtaken hrst hactive hfiller rfl
    obtain ⟨htransfer, hreply, hready⟩ := State.repliedLane_port_of_active r hactive
    refine ⟨htransfer, hreply, hready, ?_⟩
    rw [exec_transferEnd_of_filler (s := s.repliedLane n r) hrst htransfer hfiller, if_neg (by simp)]
    rfl
  · subst hp
    exact exec_transferBegin_of_none
  · subst hp
    exact exec_transferEnd_of_ignored
  · subst hp
    exact fun bits noted overtaken hrst hactive hfiller => exec_transferEnd_of_filler hrst hactive hfiller
end

section
/-! The uplink's receiver at every character and gap, and the reply buffer as its replies are sent (R196 to R201,
R205). -/

namespace Sys2Proof.Machine

/-! ### Sound and unsound characters (R196) -/

/-- A parity error is an odd number of ones among data and parity, a framing error a stop bit at the start level
(R196). -/
theorem sound_iff (c : Character) :
    sound c = true ↔ (onesOf c.data + bitValue c.parity) % 2 = 0 ∧ c.stop = true := by
  simp [sound, parityError, framingError]

/-- A character received without error is the one that a sender of its data makes: the parity bit and the stop bit
leave no choice (R196). -/
theorem soundCharacter_of_sound {c : Character} (h : sound c = true) : soundCharacter c.data = c := by
  obtain ⟨b, parity, stop⟩ := c
  obtain ⟨heven, rfl : stop = true⟩ := (sound_iff _).mp h
  have hparity : decide (onesOf b % 2 = 1) = parity := by
    cases parity with
    | false =>
      have hdata : (onesOf b + 0) % 2 = 0 := heven
      exact decide_eq_false (by omega)
    | true =>
      have hdata : (onesOf b + 1) % 2 = 0 := heven
      exact decide_eq_true (by omega)
  rw [soundCharacter, hparity]

/-! ### The receiver (R197, R198) -/

section
variable {s : State}

/-- A character with an error discards the frame, in each state of the receiver (R198). -/
theorem Receiver.take_of_unsound (rx : Receiver) {c : Character} (h : ¬ sound c = true) : rx.take c = .hunt := by
  cases rx with
  | hunt => exact if_neg fun hstart => h hstart.1
  | header frame => exact if_neg h
  | body length frame => exact if_neg h

/-- In HUNT the receiver waits for the start byte (R197). -/
theorem Receiver.take_hunt (b : Byte) :
    Receiver.hunt.take (soundCharacter b) = if b = 0xA5 then .header [0xA5] else .hunt := by
  split
  · next hb => rw [hb, Receiver.take_start]
  · next hb => exact if_neg fun hstart => hb hstart.2

/-- The second length byte opens the BODY, or discards a frame of more than 1,024 payload bytes (R197). -/
theorem Receiver.take_lengthEnd (start high low : Byte) :
    (Receiver.header [start, high]).take (soundCharacter low) =
      if 256 * high.toNat + low.toNat ≤ Config.maxPayload then
        .body (256 * high.toNat + low.toNat) [start, high, low]
      else .hunt := by
  split
  · next hlen => exact Receiver.take_lowLength start high low hlen
  · next hlen => simp [Receiver.take, sound_soundCharacter, byteAt, Nat.lt_of_not_le hlen]

theorem exec_uplinkFrameArrival (hrst : s.rstAsserted = false) : exec .uplinkFrameArrival s = .next s.arrive := by
  simp [exec, execUplinkFrameArrival, hrst]

/-- CHARACTER_RECEIVED takes the arrival of a complete frame first, if one waits (notes/assumptions/4.md). -/
theorem exec_characterReceived_arrive (c : Character) (hrst : s.rstAsserted = false) :
    exec (.characterReceived c) s = exec (.characterReceived c) s.arrive := by
  rw [exec_characterReceived_of_incomplete c (s.arrive_effects.2.trans hrst) s.arrive_complete.2]
  simp [exec, execCharacterReceived, hrst, State.receiving]

/-- INTER_BYTE_GAP moves the receiver alone. -/
theorem exec_interByteGap (hrst : s.rstAsserted = false) :
    exec .interByteGap s = .next (s.receiving s.uplink.receiver.afterGap) := by
  simp [exec, execInterByteGap, hrst, State.receiving]

/-- The limit of R198 does not discard a complete frame (notes/assumptions/4.md). -/
theorem Receiver.afterGap_of_complete {rx : Receiver} (h : rx.complete? ≠ none) : rx.afterGap = rx := by
  obtain ⟨frame, hframe⟩ := Option.ne_none_iff_exists'.mp h
  simp only [Receiver.afterGap, hframe]

theorem Receiver.afterGap_of_incomplete {rx : Receiver} (h : rx.complete? = none) : rx.afterGap = .hunt := by
  simp only [Receiver.afterGap, h]

/-! ### The reply buffer (R199, R201, R205) -/

/-- REPLY_SENT takes the oldest reply: a BUSY reply only leaves, and any other empties the slot. -/
theorem exec_replySent {r : UplinkReply} {rest : List UplinkReply} (hrst : s.rstAsserted = false)
    (hdue : s.warmResetDue = false) (hreplies : s.uplink.replies = r :: rest) :
    exec .replySent s =
      if r.status = .busy then .next { s with uplink := { s.uplink with replies := rest } }
      else .next
        { s with
          uplink := { s.uplink with replies := rest, slot := .empty }, warmResetDue := s.restarting } := by
  simp only [exec, execReplySent, hrst, hdue, Bool.or_self, hreplies]

end

end Sys2Proof.Machine

open Sys2Proof Sys2Proof.Machine

/-- Settles O45: a sound character is one a sender makes, so each receiver state takes it as it takes a request's; any
other character, and the gap, return the receiver to HUNT. -/
theorem receiverFollowsTheFrame : Obligations.ReceiverFollowsTheFrame := by
  refine ⟨fun s t c hrst harrival => ?_, fun s hcomplete => ?_, ?_⟩
  · rw [exec_uplinkFrameArrival hrst] at harrival
    cases harrival
    exact ⟨exec_characterReceived_arrive c hrst, s.arrive_effects.2.trans hrst, s.arrive_complete.2⟩
  · cases hrst : s.rstAsserted with
    | true => simp [exec, execInterByteGap, hrst]
    | false =>
      rw [exec_interByteGap hrst, Receiver.afterGap_of_complete hcomplete]
      rfl
  · rintro s c rx hrst rfl hincomplete
    refine ⟨⟨_, exec_characterReceived_of_incomplete c hrst hincomplete, fun hfault => ?_, fun heven hstop => ?_⟩, ?_⟩
    · refine Receiver.take_of_unsound _ fun hsound => ?_
      obtain ⟨heven, hstop⟩ := (sound_iff c).mp hsound
      obtain hodd | hframing := hfault
      · omega
      · exact absurd hstop (by simp [hframing])
    · rw [← soundCharacter_of_sound ((sound_iff c).mpr ⟨heven, hstop⟩)]
      refine ⟨fun hrx => ?_, fun start hrx => ?_, fun start high hrx => ?_, fun length frame hrx => ?_⟩
      · rw [hrx]; exact Receiver.take_hunt c.data
      · rw [hrx]; exact Receiver.take_highLength start c.data
      · rw [hrx]; exact Receiver.take_lengthEnd start high c.data
      · rw [hrx]; exact Receiver.take_body length frame c.data
    · rw [exec_interByteGap hrst, Receiver.afterGap_of_incomplete hincomplete]
      rfl

/-- Settles O48: the status of the oldest reply tells a BUSY reply from the slot's own. -/
theorem repliesLeaveInOrder : Obligations.RepliesLeaveInOrder := by
  intro s r rest hrst hdue hreplies
  rw [exec_replySent hrst hdue hreplies]
  exact ⟨fun hbusy => if_pos hbusy, fun hslot => if_neg hslot⟩
end
